-- ==== Sys2Proof/Word.lean ====
section
/-! DEFINITION. The two word sizes of the machine: 8-bit data and 16-bit addresses (00_scope R5, R6). -/

namespace Sys2Proof

/-- One byte: the width of the data bus and of A, X, Y, S and P (00_scope R5). -/
abbrev Byte := BitVec 8

/-- A 16-bit address: the width of A0 to A15 and of PC (00_scope R5, 20_memory R50). -/
abbrev Addr := BitVec 16

end Sys2Proof
end

