-- ==== Sys2Proof/Machine/Bytes.lean ====
section
/-! DEFINITION. Byte order, zero and sign extension, and the two fixed pages (00_scope R6; 20_memory R54, R57, R63). -/

namespace Sys2Proof

/-- `{hi, lo} = hi * 256 + lo` (00_scope R6). -/
def mkAddr (hi lo : Byte) : Addr := BitVec.ofNat 16 (hi.toNat * 256 + lo.toNat)

/-- `a[7:0]`, PCL of a program counter value (10_state R24). -/
def loByte (a : Addr) : Byte := a.setWidth 8

/-- `a[15:8]`, PCH of a program counter value (10_state R24). -/
def hiByte (a : Addr) : Byte := (a >>> 8).setWidth 8

/-- `zext_16`: a zero page address `{$00, z}`, and an index register as an unsigned number (20 R63; 40 R100). -/
def zext (z : Byte) : Addr := z.setWidth 16

/-- `sext_16`: the relative offset as a signed number (00 R6; 30 R86). -/
def sext (off : Byte) : Addr := off.signExtend 16

/-- `$0100 + S`: the location the stack pointer addresses, always in page one (20 R57). -/
def stackAddr (sp : Byte) : Addr := 0x0100 + zext sp

end Sys2Proof
end

