-- ==== Sys2Proof/Syntax.lean ====
section
/-! DEFINITION. The instructions: one constructor per row of spec/opcode_table.json, that is per opcode byte
(30_encoding R84, R88), with its operand bytes (R85). A reserved opcode `xx` is `rsvxx`;
those with operand bytes come before those without. -/

namespace Sys2Proof

/-- The 256 instructions. Operands: `v` an immediate byte, `z` a zero page address, `b` a 16-bit address, `off` a
branch offset, `sig` BRK's signature byte, `pad` and `pad2` the ignored bytes of a reserved opcode. -/
inductive Instr where
  /-- `A9` LDA immediate (R130). -/
  | ldaImm (v : Byte)
  /-- `A5` LDA zero page (R130). -/
  | ldaZp (z : Byte)
  /-- `B5` LDA zero page,X (R130). -/
  | ldaZpx (z : Byte)
  /-- `AD` LDA absolute (R130). -/
  | ldaAbs (b : Addr)
  /-- `BD` LDA absolute,X (R130). -/
  | ldaAbsx (b : Addr)
  /-- `B9` LDA absolute,Y (R130). -/
  | ldaAbsy (b : Addr)
  /-- `A1` LDA (zero page,X) (R130). -/
  | ldaIndx (z : Byte)
  /-- `B1` LDA (zero page),Y (R130). -/
  | ldaIndy (z : Byte)
  /-- `B2` LDA (zero page) (R130). -/
  | ldaZpind (z : Byte)
  /-- `A2` LDX immediate (R131). -/
  | ldxImm (v : Byte)
  /-- `A6` LDX zero page (R131). -/
  | ldxZp (z : Byte)
  /-- `B6` LDX zero page,Y (R131). -/
  | ldxZpy (z : Byte)
  /-- `AE` LDX absolute (R131). -/
  | ldxAbs (b : Addr)
  /-- `BE` LDX absolute,Y (R131). -/
  | ldxAbsy (b : Addr)
  /-- `A0` LDY immediate (R132). -/
  | ldyImm (v : Byte)
  /-- `A4` LDY zero page (R132). -/
  | ldyZp (z : Byte)
  /-- `B4` LDY zero page,X (R132). -/
  | ldyZpx (z : Byte)
  /-- `AC` LDY absolute (R132). -/
  | ldyAbs (b : Addr)
  /-- `BC` LDY absolute,X (R132). -/
  | ldyAbsx (b : Addr)
  /-- `85` STA zero page (R133). -/
  | staZp (z : Byte)
  /-- `95` STA zero page,X (R133). -/
  | staZpx (z : Byte)
  /-- `8D` STA absolute (R133). -/
  | staAbs (b : Addr)
  /-- `9D` STA absolute,X (R133). -/
  | staAbsx (b : Addr)
  /-- `99` STA absolute,Y (R133). -/
  | staAbsy (b : Addr)
  /-- `81` STA (zero page,X) (R133). -/
  | staIndx (z : Byte)
  /-- `91` STA (zero page),Y (R133). -/
  | staIndy (z : Byte)
  /-- `92` STA (zero page) (R133). -/
  | staZpind (z : Byte)
  /-- `86` STX zero page (R134). -/
  | stxZp (z : Byte)
  /-- `96` STX zero page,Y (R134). -/
  | stxZpy (z : Byte)
  /-- `8E` STX absolute (R134). -/
  | stxAbs (b : Addr)
  /-- `84` STY zero page (R135). -/
  | styZp (z : Byte)
  /-- `94` STY zero page,X (R135). -/
  | styZpx (z : Byte)
  /-- `8C` STY absolute (R135). -/
  | styAbs (b : Addr)
  /-- `64` STZ zero page (R136). -/
  | stzZp (z : Byte)
  /-- `74` STZ zero page,X (R136). -/
  | stzZpx (z : Byte)
  /-- `9C` STZ absolute (R136). -/
  | stzAbs (b : Addr)
  /-- `9E` STZ absolute,X (R136). -/
  | stzAbsx (b : Addr)
  /-- `AA` TAX implied (R137). -/
  | tax
  /-- `A8` TAY implied (R138). -/
  | tay
  /-- `8A` TXA implied (R139). -/
  | txa
  /-- `98` TYA implied (R140). -/
  | tya
  /-- `BA` TSX implied (R141). -/
  | tsx
  /-- `9A` TXS implied (R142). -/
  | txs
  /-- `69` ADC immediate (R155). -/
  | adcImm (v : Byte)
  /-- `65` ADC zero page (R155). -/
  | adcZp (z : Byte)
  /-- `75` ADC zero page,X (R155). -/
  | adcZpx (z : Byte)
  /-- `6D` ADC absolute (R155). -/
  | adcAbs (b : Addr)
  /-- `7D` ADC absolute,X (R155). -/
  | adcAbsx (b : Addr)
  /-- `79` ADC absolute,Y (R155). -/
  | adcAbsy (b : Addr)
  /-- `61` ADC (zero page,X) (R155). -/
  | adcIndx (z : Byte)
  /-- `71` ADC (zero page),Y (R155). -/
  | adcIndy (z : Byte)
  /-- `72` ADC (zero page) (R155). -/
  | adcZpind (z : Byte)
  /-- `E9` SBC immediate (R156). -/
  | sbcImm (v : Byte)
  /-- `E5` SBC zero page (R156). -/
  | sbcZp (z : Byte)
  /-- `F5` SBC zero page,X (R156). -/
  | sbcZpx (z : Byte)
  /-- `ED` SBC absolute (R156). -/
  | sbcAbs (b : Addr)
  /-- `FD` SBC absolute,X (R156). -/
  | sbcAbsx (b : Addr)
  /-- `F9` SBC absolute,Y (R156). -/
  | sbcAbsy (b : Addr)
  /-- `E1` SBC (zero page,X) (R156). -/
  | sbcIndx (z : Byte)
  /-- `F1` SBC (zero page),Y (R156). -/
  | sbcIndy (z : Byte)
  /-- `F2` SBC (zero page) (R156). -/
  | sbcZpind (z : Byte)
  /-- `C9` CMP immediate (R157). -/
  | cmpImm (v : Byte)
  /-- `C5` CMP zero page (R157). -/
  | cmpZp (z : Byte)
  /-- `D5` CMP zero page,X (R157). -/
  | cmpZpx (z : Byte)
  /-- `CD` CMP absolute (R157). -/
  | cmpAbs (b : Addr)
  /-- `DD` CMP absolute,X (R157). -/
  | cmpAbsx (b : Addr)
  /-- `D9` CMP absolute,Y (R157). -/
  | cmpAbsy (b : Addr)
  /-- `C1` CMP (zero page,X) (R157). -/
  | cmpIndx (z : Byte)
  /-- `D1` CMP (zero page),Y (R157). -/
  | cmpIndy (z : Byte)
  /-- `D2` CMP (zero page) (R157). -/
  | cmpZpind (z : Byte)
  /-- `E0` CPX immediate (R158). -/
  | cpxImm (v : Byte)
  /-- `E4` CPX zero page (R158). -/
  | cpxZp (z : Byte)
  /-- `EC` CPX absolute (R158). -/
  | cpxAbs (b : Addr)
  /-- `C0` CPY immediate (R159). -/
  | cpyImm (v : Byte)
  /-- `C4` CPY zero page (R159). -/
  | cpyZp (z : Byte)
  /-- `CC` CPY absolute (R159). -/
  | cpyAbs (b : Addr)
  /-- `1A` INC accumulator (R160). -/
  | incAcc
  /-- `E6` INC zero page (R160). -/
  | incZp (z : Byte)
  /-- `F6` INC zero page,X (R160). -/
  | incZpx (z : Byte)
  /-- `EE` INC absolute (R160). -/
  | incAbs (b : Addr)
  /-- `FE` INC absolute,X (R160). -/
  | incAbsx (b : Addr)
  /-- `E8` INX implied (R161). -/
  | inx
  /-- `C8` INY implied (R162). -/
  | iny
  /-- `3A` DEC accumulator (R163). -/
  | decAcc
  /-- `C6` DEC zero page (R163). -/
  | decZp (z : Byte)
  /-- `D6` DEC zero page,X (R163). -/
  | decZpx (z : Byte)
  /-- `CE` DEC absolute (R163). -/
  | decAbs (b : Addr)
  /-- `DE` DEC absolute,X (R163). -/
  | decAbsx (b : Addr)
  /-- `CA` DEX implied (R164). -/
  | dex
  /-- `88` DEY implied (R165). -/
  | dey
  /-- `29` AND immediate (R170). -/
  | andImm (v : Byte)
  /-- `25` AND zero page (R170). -/
  | andZp (z : Byte)
  /-- `35` AND zero page,X (R170). -/
  | andZpx (z : Byte)
  /-- `2D` AND absolute (R170). -/
  | andAbs (b : Addr)
  /-- `3D` AND absolute,X (R170). -/
  | andAbsx (b : Addr)
  /-- `39` AND absolute,Y (R170). -/
  | andAbsy (b : Addr)
  /-- `21` AND (zero page,X) (R170). -/
  | andIndx (z : Byte)
  /-- `31` AND (zero page),Y (R170). -/
  | andIndy (z : Byte)
  /-- `32` AND (zero page) (R170). -/
  | andZpind (z : Byte)
  /-- `09` ORA immediate (R171). -/
  | oraImm (v : Byte)
  /-- `05` ORA zero page (R171). -/
  | oraZp (z : Byte)
  /-- `15` ORA zero page,X (R171). -/
  | oraZpx (z : Byte)
  /-- `0D` ORA absolute (R171). -/
  | oraAbs (b : Addr)
  /-- `1D` ORA absolute,X (R171). -/
  | oraAbsx (b : Addr)
  /-- `19` ORA absolute,Y (R171). -/
  | oraAbsy (b : Addr)
  /-- `01` ORA (zero page,X) (R171). -/
  | oraIndx (z : Byte)
  /-- `11` ORA (zero page),Y (R171). -/
  | oraIndy (z : Byte)
  /-- `12` ORA (zero page) (R171). -/
  | oraZpind (z : Byte)
  /-- `49` EOR immediate (R172). -/
  | eorImm (v : Byte)
  /-- `45` EOR zero page (R172). -/
  | eorZp (z : Byte)
  /-- `55` EOR zero page,X (R172). -/
  | eorZpx (z : Byte)
  /-- `4D` EOR absolute (R172). -/
  | eorAbs (b : Addr)
  /-- `5D` EOR absolute,X (R172). -/
  | eorAbsx (b : Addr)
  /-- `59` EOR absolute,Y (R172). -/
  | eorAbsy (b : Addr)
  /-- `41` EOR (zero page,X) (R172). -/
  | eorIndx (z : Byte)
  /-- `51` EOR (zero page),Y (R172). -/
  | eorIndy (z : Byte)
  /-- `52` EOR (zero page) (R172). -/
  | eorZpind (z : Byte)
  /-- `89` BIT immediate (R173). -/
  | bitImm (v : Byte)
  /-- `24` BIT zero page (R173). -/
  | bitZp (z : Byte)
  /-- `34` BIT zero page,X (R173). -/
  | bitZpx (z : Byte)
  /-- `2C` BIT absolute (R173). -/
  | bitAbs (b : Addr)
  /-- `3C` BIT absolute,X (R173). -/
  | bitAbsx (b : Addr)
  /-- `14` TRB zero page (R174). -/
  | trbZp (z : Byte)
  /-- `1C` TRB absolute (R174). -/
  | trbAbs (b : Addr)
  /-- `04` TSB zero page (R175). -/
  | tsbZp (z : Byte)
  /-- `0C` TSB absolute (R175). -/
  | tsbAbs (b : Addr)
  /-- `0A` ASL accumulator (R181). -/
  | aslAcc
  /-- `06` ASL zero page (R181). -/
  | aslZp (z : Byte)
  /-- `16` ASL zero page,X (R181). -/
  | aslZpx (z : Byte)
  /-- `0E` ASL absolute (R181). -/
  | aslAbs (b : Addr)
  /-- `1E` ASL absolute,X (R181). -/
  | aslAbsx (b : Addr)
  /-- `4A` LSR accumulator (R182). -/
  | lsrAcc
  /-- `46` LSR zero page (R182). -/
  | lsrZp (z : Byte)
  /-- `56` LSR zero page,X (R182). -/
  | lsrZpx (z : Byte)
  /-- `4E` LSR absolute (R182). -/
  | lsrAbs (b : Addr)
  /-- `5E` LSR absolute,X (R182). -/
  | lsrAbsx (b : Addr)
  /-- `2A` ROL accumulator (R183). -/
  | rolAcc
  /-- `26` ROL zero page (R183). -/
  | rolZp (z : Byte)
  /-- `36` ROL zero page,X (R183). -/
  | rolZpx (z : Byte)
  /-- `2E` ROL absolute (R183). -/
  | rolAbs (b : Addr)
  /-- `3E` ROL absolute,X (R183). -/
  | rolAbsx (b : Addr)
  /-- `6A` ROR accumulator (R184). -/
  | rorAcc
  /-- `66` ROR zero page (R184). -/
  | rorZp (z : Byte)
  /-- `76` ROR zero page,X (R184). -/
  | rorZpx (z : Byte)
  /-- `6E` ROR absolute (R184). -/
  | rorAbs (b : Addr)
  /-- `7E` ROR absolute,X (R184). -/
  | rorAbsx (b : Addr)
  /-- `90` BCC relative (R191). -/
  | bcc (off : Byte)
  /-- `B0` BCS relative (R192). -/
  | bcs (off : Byte)
  /-- `F0` BEQ relative (R193). -/
  | beq (off : Byte)
  /-- `D0` BNE relative (R194). -/
  | bne (off : Byte)
  /-- `30` BMI relative (R195). -/
  | bmi (off : Byte)
  /-- `10` BPL relative (R196). -/
  | bpl (off : Byte)
  /-- `50` BVC relative (R197). -/
  | bvc (off : Byte)
  /-- `70` BVS relative (R198). -/
  | bvs (off : Byte)
  /-- `80` BRA relative (R199). -/
  | bra (off : Byte)
  /-- `4C` JMP absolute (R205). -/
  | jmpAbs (b : Addr)
  /-- `6C` JMP (absolute) (R205). -/
  | jmpAbsind (b : Addr)
  /-- `7C` JMP (absolute,X) (R205). -/
  | jmpAbsxind (b : Addr)
  /-- `20` JSR absolute (R206). -/
  | jsr (b : Addr)
  /-- `60` RTS implied (R207). -/
  | rts
  /-- `40` RTI implied (R208). -/
  | rti
  /-- `48` PHA implied (R215). -/
  | pha
  /-- `68` PLA implied (R216). -/
  | pla
  /-- `08` PHP implied (R217). -/
  | php
  /-- `28` PLP implied (R218). -/
  | plp
  /-- `DA` PHX implied (R219). -/
  | phx
  /-- `FA` PLX implied (R220). -/
  | plx
  /-- `5A` PHY implied (R221). -/
  | phy
  /-- `7A` PLY implied (R222). -/
  | ply
  /-- `18` CLC implied (R230). -/
  | clc
  /-- `D8` CLD implied (R231). -/
  | cld
  /-- `58` CLI implied (R232). -/
  | cli
  /-- `B8` CLV implied (R233). -/
  | clv
  /-- `38` SEC implied (R234). -/
  | sec
  /-- `F8` SED implied (R235). -/
  | sed
  /-- `78` SEI implied (R236). -/
  | sei
  /-- `00` BRK with its signature byte (R240). -/
  | brk (sig : Byte)
  /-- `EA` NOP implied (R241). -/
  | nop
  /-- `CB` WAI implied (R242). -/
  | wai
  /-- `DB` STP implied (R243). -/
  | stp
  /-- `02` reserved 2 bytes (R245). -/
  | rsv02 (pad : Byte)
  /-- `22` reserved 2 bytes (R245). -/
  | rsv22 (pad : Byte)
  /-- `42` reserved 2 bytes (R245). -/
  | rsv42 (pad : Byte)
  /-- `44` reserved 2 bytes (R246). -/
  | rsv44 (pad : Byte)
  /-- `54` reserved 2 bytes (R247). -/
  | rsv54 (pad : Byte)
  /-- `5C` reserved 3 bytes (R248). -/
  | rsv5C (pad : Byte) (pad2 : Byte)
  /-- `62` reserved 2 bytes (R245). -/
  | rsv62 (pad : Byte)
  /-- `82` reserved 2 bytes (R245). -/
  | rsv82 (pad : Byte)
  /-- `C2` reserved 2 bytes (R245). -/
  | rsvC2 (pad : Byte)
  /-- `D4` reserved 2 bytes (R247). -/
  | rsvD4 (pad : Byte)
  /-- `DC` reserved 3 bytes (R249). -/
  | rsvDC (pad : Byte) (pad2 : Byte)
  /-- `E2` reserved 2 bytes (R245). -/
  | rsvE2 (pad : Byte)
  /-- `F4` reserved 2 bytes (R247). -/
  | rsvF4 (pad : Byte)
  /-- `FC` reserved 3 bytes (R249). -/
  | rsvFC (pad : Byte) (pad2 : Byte)
  /-- `03` reserved 1 byte (R244). -/
  | rsv03
  /-- `07` reserved 1 byte (R244). -/
  | rsv07
  /-- `0B` reserved 1 byte (R244). -/
  | rsv0B
  /-- `0F` reserved 1 byte (R250). -/
  | rsv0F
  /-- `13` reserved 1 byte (R244). -/
  | rsv13
  /-- `17` reserved 1 byte (R244). -/
  | rsv17
  /-- `1B` reserved 1 byte (R244). -/
  | rsv1B
  /-- `1F` reserved 1 byte (R250). -/
  | rsv1F
  /-- `23` reserved 1 byte (R244). -/
  | rsv23
  /-- `27` reserved 1 byte (R244). -/
  | rsv27
  /-- `2B` reserved 1 byte (R244). -/
  | rsv2B
  /-- `2F` reserved 1 byte (R250). -/
  | rsv2F
  /-- `33` reserved 1 byte (R244). -/
  | rsv33
  /-- `37` reserved 1 byte (R244). -/
  | rsv37
  /-- `3B` reserved 1 byte (R244). -/
  | rsv3B
  /-- `3F` reserved 1 byte (R250). -/
  | rsv3F
  /-- `43` reserved 1 byte (R244). -/
  | rsv43
  /-- `47` reserved 1 byte (R244). -/
  | rsv47
  /-- `4B` reserved 1 byte (R244). -/
  | rsv4B
  /-- `4F` reserved 1 byte (R250). -/
  | rsv4F
  /-- `53` reserved 1 byte (R244). -/
  | rsv53
  /-- `57` reserved 1 byte (R244). -/
  | rsv57
  /-- `5B` reserved 1 byte (R244). -/
  | rsv5B
  /-- `5F` reserved 1 byte (R250). -/
  | rsv5F
  /-- `63` reserved 1 byte (R244). -/
  | rsv63
  /-- `67` reserved 1 byte (R244). -/
  | rsv67
  /-- `6B` reserved 1 byte (R244). -/
  | rsv6B
  /-- `6F` reserved 1 byte (R250). -/
  | rsv6F
  /-- `73` reserved 1 byte (R244). -/
  | rsv73
  /-- `77` reserved 1 byte (R244). -/
  | rsv77
  /-- `7B` reserved 1 byte (R244). -/
  | rsv7B
  /-- `7F` reserved 1 byte (R250). -/
  | rsv7F
  /-- `83` reserved 1 byte (R244). -/
  | rsv83
  /-- `87` reserved 1 byte (R244). -/
  | rsv87
  /-- `8B` reserved 1 byte (R244). -/
  | rsv8B
  /-- `8F` reserved 1 byte (R250). -/
  | rsv8F
  /-- `93` reserved 1 byte (R244). -/
  | rsv93
  /-- `97` reserved 1 byte (R244). -/
  | rsv97
  /-- `9B` reserved 1 byte (R244). -/
  | rsv9B
  /-- `9F` reserved 1 byte (R250). -/
  | rsv9F
  /-- `A3` reserved 1 byte (R244). -/
  | rsvA3
  /-- `A7` reserved 1 byte (R244). -/
  | rsvA7
  /-- `AB` reserved 1 byte (R244). -/
  | rsvAB
  /-- `AF` reserved 1 byte (R250). -/
  | rsvAF
  /-- `B3` reserved 1 byte (R244). -/
  | rsvB3
  /-- `B7` reserved 1 byte (R244). -/
  | rsvB7
  /-- `BB` reserved 1 byte (R244). -/
  | rsvBB
  /-- `BF` reserved 1 byte (R250). -/
  | rsvBF
  /-- `C3` reserved 1 byte (R244). -/
  | rsvC3
  /-- `C7` reserved 1 byte (R244). -/
  | rsvC7
  /-- `CF` reserved 1 byte (R250). -/
  | rsvCF
  /-- `D3` reserved 1 byte (R244). -/
  | rsvD3
  /-- `D7` reserved 1 byte (R244). -/
  | rsvD7
  /-- `DF` reserved 1 byte (R250). -/
  | rsvDF
  /-- `E3` reserved 1 byte (R244). -/
  | rsvE3
  /-- `E7` reserved 1 byte (R244). -/
  | rsvE7
  /-- `EB` reserved 1 byte (R244). -/
  | rsvEB
  /-- `EF` reserved 1 byte (R250). -/
  | rsvEF
  /-- `F3` reserved 1 byte (R244). -/
  | rsvF3
  /-- `F7` reserved 1 byte (R244). -/
  | rsvF7
  /-- `FB` reserved 1 byte (R244). -/
  | rsvFB
  /-- `FF` reserved 1 byte (R250). -/
  | rsvFF
deriving DecidableEq, Repr

end Sys2Proof
end

