-- ==== Sys2Proof/Machine/Forms.lean ====
section
/-! DEFINITION. The mnemonic and the format of each instruction (30_encoding R83, R84; 40_addressing_modes R119), and
the length a format has. -/

namespace Sys2Proof

/-- The 66 mnemonics (30_encoding R84) and `reserved` for the 76 opcodes of R88. -/
inductive Op where
  | lda
  | ldx
  | ldy
  | sta
  | stx
  | sty
  | stz
  | tax
  | tay
  | txa
  | tya
  | tsx
  | txs
  | adc
  | sbc
  | cmp
  | cpx
  | cpy
  | inc
  | inx
  | iny
  | dec
  | dex
  | dey
  | and
  | ora
  | eor
  | bit
  | trb
  | tsb
  | asl
  | lsr
  | rol
  | ror
  | bcc
  | bcs
  | beq
  | bne
  | bmi
  | bpl
  | bvc
  | bvs
  | bra
  | jmp
  | jsr
  | rts
  | rti
  | pha
  | pla
  | php
  | plp
  | phx
  | plx
  | phy
  | ply
  | clc
  | cld
  | cli
  | clv
  | sec
  | sed
  | sei
  | brk
  | nop
  | wai
  | stp
  | reserved
deriving DecidableEq, Repr

/-- The formats of 30_encoding R83, by their ids. -/
inductive Format where
  | imp
  | acc
  | imm
  | zp
  | zpx
  | zpy
  | abs
  | absx
  | absy
  | indx
  | indy
  | zpind
  | rel
  | absind
  | absxind
  | brk
  | nop1
  | nop2
  | nop3
deriving DecidableEq, Repr

/-- Bytes of a format (30_encoding R83). -/
def Format.length : Format → Nat
  | .imp | .acc | .nop1 => 1
  | .imm | .zp | .zpx | .zpy | .indx | .indy | .zpind | .rel | .brk | .nop2 => 2
  | .abs | .absx | .absy | .absind | .absxind | .nop3 => 3

/-- The mnemonic of an instruction (30_encoding R84, R88). -/
def Instr.op : Instr → Op
  | .ldaImm _ => .lda
  | .ldaZp _ => .lda
  | .ldaZpx _ => .lda
  | .ldaAbs _ => .lda
  | .ldaAbsx _ => .lda
  | .ldaAbsy _ => .lda
  | .ldaIndx _ => .lda
  | .ldaIndy _ => .lda
  | .ldaZpind _ => .lda
  | .ldxImm _ => .ldx
  | .ldxZp _ => .ldx
  | .ldxZpy _ => .ldx
  | .ldxAbs _ => .ldx
  | .ldxAbsy _ => .ldx
  | .ldyImm _ => .ldy
  | .ldyZp _ => .ldy
  | .ldyZpx _ => .ldy
  | .ldyAbs _ => .ldy
  | .ldyAbsx _ => .ldy
  | .staZp _ => .sta
  | .staZpx _ => .sta
  | .staAbs _ => .sta
  | .staAbsx _ => .sta
  | .staAbsy _ => .sta
  | .staIndx _ => .sta
  | .staIndy _ => .sta
  | .staZpind _ => .sta
  | .stxZp _ => .stx
  | .stxZpy _ => .stx
  | .stxAbs _ => .stx
  | .styZp _ => .sty
  | .styZpx _ => .sty
  | .styAbs _ => .sty
  | .stzZp _ => .stz
  | .stzZpx _ => .stz
  | .stzAbs _ => .stz
  | .stzAbsx _ => .stz
  | .tax => .tax
  | .tay => .tay
  | .txa => .txa
  | .tya => .tya
  | .tsx => .tsx
  | .txs => .txs
  | .adcImm _ => .adc
  | .adcZp _ => .adc
  | .adcZpx _ => .adc
  | .adcAbs _ => .adc
  | .adcAbsx _ => .adc
  | .adcAbsy _ => .adc
  | .adcIndx _ => .adc
  | .adcIndy _ => .adc
  | .adcZpind _ => .adc
  | .sbcImm _ => .sbc
  | .sbcZp _ => .sbc
  | .sbcZpx _ => .sbc
  | .sbcAbs _ => .sbc
  | .sbcAbsx _ => .sbc
  | .sbcAbsy _ => .sbc
  | .sbcIndx _ => .sbc
  | .sbcIndy _ => .sbc
  | .sbcZpind _ => .sbc
  | .cmpImm _ => .cmp
  | .cmpZp _ => .cmp
  | .cmpZpx _ => .cmp
  | .cmpAbs _ => .cmp
  | .cmpAbsx _ => .cmp
  | .cmpAbsy _ => .cmp
  | .cmpIndx _ => .cmp
  | .cmpIndy _ => .cmp
  | .cmpZpind _ => .cmp
  | .cpxImm _ => .cpx
  | .cpxZp _ => .cpx
  | .cpxAbs _ => .cpx
  | .cpyImm _ => .cpy
  | .cpyZp _ => .cpy
  | .cpyAbs _ => .cpy
  | .incAcc => .inc
  | .incZp _ => .inc
  | .incZpx _ => .inc
  | .incAbs _ => .inc
  | .incAbsx _ => .inc
  | .inx => .inx
  | .iny => .iny
  | .decAcc => .dec
  | .decZp _ => .dec
  | .decZpx _ => .dec
  | .decAbs _ => .dec
  | .decAbsx _ => .dec
  | .dex => .dex
  | .dey => .dey
  | .andImm _ => .and
  | .andZp _ => .and
  | .andZpx _ => .and
  | .andAbs _ => .and
  | .andAbsx _ => .and
  | .andAbsy _ => .and
  | .andIndx _ => .and
  | .andIndy _ => .and
  | .andZpind _ => .and
  | .oraImm _ => .ora
  | .oraZp _ => .ora
  | .oraZpx _ => .ora
  | .oraAbs _ => .ora
  | .oraAbsx _ => .ora
  | .oraAbsy _ => .ora
  | .oraIndx _ => .ora
  | .oraIndy _ => .ora
  | .oraZpind _ => .ora
  | .eorImm _ => .eor
  | .eorZp _ => .eor
  | .eorZpx _ => .eor
  | .eorAbs _ => .eor
  | .eorAbsx _ => .eor
  | .eorAbsy _ => .eor
  | .eorIndx _ => .eor
  | .eorIndy _ => .eor
  | .eorZpind _ => .eor
  | .bitImm _ => .bit
  | .bitZp _ => .bit
  | .bitZpx _ => .bit
  | .bitAbs _ => .bit
  | .bitAbsx _ => .bit
  | .trbZp _ => .trb
  | .trbAbs _ => .trb
  | .tsbZp _ => .tsb
  | .tsbAbs _ => .tsb
  | .aslAcc => .asl
  | .aslZp _ => .asl
  | .aslZpx _ => .asl
  | .aslAbs _ => .asl
  | .aslAbsx _ => .asl
  | .lsrAcc => .lsr
  | .lsrZp _ => .lsr
  | .lsrZpx _ => .lsr
  | .lsrAbs _ => .lsr
  | .lsrAbsx _ => .lsr
  | .rolAcc => .rol
  | .rolZp _ => .rol
  | .rolZpx _ => .rol
  | .rolAbs _ => .rol
  | .rolAbsx _ => .rol
  | .rorAcc => .ror
  | .rorZp _ => .ror
  | .rorZpx _ => .ror
  | .rorAbs _ => .ror
  | .rorAbsx _ => .ror
  | .bcc _ => .bcc
  | .bcs _ => .bcs
  | .beq _ => .beq
  | .bne _ => .bne
  | .bmi _ => .bmi
  | .bpl _ => .bpl
  | .bvc _ => .bvc
  | .bvs _ => .bvs
  | .bra _ => .bra
  | .jmpAbs _ => .jmp
  | .jmpAbsind _ => .jmp
  | .jmpAbsxind _ => .jmp
  | .jsr _ => .jsr
  | .rts => .rts
  | .rti => .rti
  | .pha => .pha
  | .pla => .pla
  | .php => .php
  | .plp => .plp
  | .phx => .phx
  | .plx => .plx
  | .phy => .phy
  | .ply => .ply
  | .clc => .clc
  | .cld => .cld
  | .cli => .cli
  | .clv => .clv
  | .sec => .sec
  | .sed => .sed
  | .sei => .sei
  | .brk _ => .brk
  | .nop => .nop
  | .wai => .wai
  | .stp => .stp
  | .rsv02 _ => .reserved
  | .rsv22 _ => .reserved
  | .rsv42 _ => .reserved
  | .rsv44 _ => .reserved
  | .rsv54 _ => .reserved
  | .rsv5C _ _ => .reserved
  | .rsv62 _ => .reserved
  | .rsv82 _ => .reserved
  | .rsvC2 _ => .reserved
  | .rsvD4 _ => .reserved
  | .rsvDC _ _ => .reserved
  | .rsvE2 _ => .reserved
  | .rsvF4 _ => .reserved
  | .rsvFC _ _ => .reserved
  | .rsv03 => .reserved
  | .rsv07 => .reserved
  | .rsv0B => .reserved
  | .rsv0F => .reserved
  | .rsv13 => .reserved
  | .rsv17 => .reserved
  | .rsv1B => .reserved
  | .rsv1F => .reserved
  | .rsv23 => .reserved
  | .rsv27 => .reserved
  | .rsv2B => .reserved
  | .rsv2F => .reserved
  | .rsv33 => .reserved
  | .rsv37 => .reserved
  | .rsv3B => .reserved
  | .rsv3F => .reserved
  | .rsv43 => .reserved
  | .rsv47 => .reserved
  | .rsv4B => .reserved
  | .rsv4F => .reserved
  | .rsv53 => .reserved
  | .rsv57 => .reserved
  | .rsv5B => .reserved
  | .rsv5F => .reserved
  | .rsv63 => .reserved
  | .rsv67 => .reserved
  | .rsv6B => .reserved
  | .rsv6F => .reserved
  | .rsv73 => .reserved
  | .rsv77 => .reserved
  | .rsv7B => .reserved
  | .rsv7F => .reserved
  | .rsv83 => .reserved
  | .rsv87 => .reserved
  | .rsv8B => .reserved
  | .rsv8F => .reserved
  | .rsv93 => .reserved
  | .rsv97 => .reserved
  | .rsv9B => .reserved
  | .rsv9F => .reserved
  | .rsvA3 => .reserved
  | .rsvA7 => .reserved
  | .rsvAB => .reserved
  | .rsvAF => .reserved
  | .rsvB3 => .reserved
  | .rsvB7 => .reserved
  | .rsvBB => .reserved
  | .rsvBF => .reserved
  | .rsvC3 => .reserved
  | .rsvC7 => .reserved
  | .rsvCF => .reserved
  | .rsvD3 => .reserved
  | .rsvD7 => .reserved
  | .rsvDF => .reserved
  | .rsvE3 => .reserved
  | .rsvE7 => .reserved
  | .rsvEB => .reserved
  | .rsvEF => .reserved
  | .rsvF3 => .reserved
  | .rsvF7 => .reserved
  | .rsvFB => .reserved
  | .rsvFF => .reserved

/-- The format of an instruction (30_encoding R83, R84, R88). -/
def Instr.format : Instr → Format
  | .ldaImm _ => .imm
  | .ldaZp _ => .zp
  | .ldaZpx _ => .zpx
  | .ldaAbs _ => .abs
  | .ldaAbsx _ => .absx
  | .ldaAbsy _ => .absy
  | .ldaIndx _ => .indx
  | .ldaIndy _ => .indy
  | .ldaZpind _ => .zpind
  | .ldxImm _ => .imm
  | .ldxZp _ => .zp
  | .ldxZpy _ => .zpy
  | .ldxAbs _ => .abs
  | .ldxAbsy _ => .absy
  | .ldyImm _ => .imm
  | .ldyZp _ => .zp
  | .ldyZpx _ => .zpx
  | .ldyAbs _ => .abs
  | .ldyAbsx _ => .absx
  | .staZp _ => .zp
  | .staZpx _ => .zpx
  | .staAbs _ => .abs
  | .staAbsx _ => .absx
  | .staAbsy _ => .absy
  | .staIndx _ => .indx
  | .staIndy _ => .indy
  | .staZpind _ => .zpind
  | .stxZp _ => .zp
  | .stxZpy _ => .zpy
  | .stxAbs _ => .abs
  | .styZp _ => .zp
  | .styZpx _ => .zpx
  | .styAbs _ => .abs
  | .stzZp _ => .zp
  | .stzZpx _ => .zpx
  | .stzAbs _ => .abs
  | .stzAbsx _ => .absx
  | .tax => .imp
  | .tay => .imp
  | .txa => .imp
  | .tya => .imp
  | .tsx => .imp
  | .txs => .imp
  | .adcImm _ => .imm
  | .adcZp _ => .zp
  | .adcZpx _ => .zpx
  | .adcAbs _ => .abs
  | .adcAbsx _ => .absx
  | .adcAbsy _ => .absy
  | .adcIndx _ => .indx
  | .adcIndy _ => .indy
  | .adcZpind _ => .zpind
  | .sbcImm _ => .imm
  | .sbcZp _ => .zp
  | .sbcZpx _ => .zpx
  | .sbcAbs _ => .abs
  | .sbcAbsx _ => .absx
  | .sbcAbsy _ => .absy
  | .sbcIndx _ => .indx
  | .sbcIndy _ => .indy
  | .sbcZpind _ => .zpind
  | .cmpImm _ => .imm
  | .cmpZp _ => .zp
  | .cmpZpx _ => .zpx
  | .cmpAbs _ => .abs
  | .cmpAbsx _ => .absx
  | .cmpAbsy _ => .absy
  | .cmpIndx _ => .indx
  | .cmpIndy _ => .indy
  | .cmpZpind _ => .zpind
  | .cpxImm _ => .imm
  | .cpxZp _ => .zp
  | .cpxAbs _ => .abs
  | .cpyImm _ => .imm
  | .cpyZp _ => .zp
  | .cpyAbs _ => .abs
  | .incAcc => .acc
  | .incZp _ => .zp
  | .incZpx _ => .zpx
  | .incAbs _ => .abs
  | .incAbsx _ => .absx
  | .inx => .imp
  | .iny => .imp
  | .decAcc => .acc
  | .decZp _ => .zp
  | .decZpx _ => .zpx
  | .decAbs _ => .abs
  | .decAbsx _ => .absx
  | .dex => .imp
  | .dey => .imp
  | .andImm _ => .imm
  | .andZp _ => .zp
  | .andZpx _ => .zpx
  | .andAbs _ => .abs
  | .andAbsx _ => .absx
  | .andAbsy _ => .absy
  | .andIndx _ => .indx
  | .andIndy _ => .indy
  | .andZpind _ => .zpind
  | .oraImm _ => .imm
  | .oraZp _ => .zp
  | .oraZpx _ => .zpx
  | .oraAbs _ => .abs
  | .oraAbsx _ => .absx
  | .oraAbsy _ => .absy
  | .oraIndx _ => .indx
  | .oraIndy _ => .indy
  | .oraZpind _ => .zpind
  | .eorImm _ => .imm
  | .eorZp _ => .zp
  | .eorZpx _ => .zpx
  | .eorAbs _ => .abs
  | .eorAbsx _ => .absx
  | .eorAbsy _ => .absy
  | .eorIndx _ => .indx
  | .eorIndy _ => .indy
  | .eorZpind _ => .zpind
  | .bitImm _ => .imm
  | .bitZp _ => .zp
  | .bitZpx _ => .zpx
  | .bitAbs _ => .abs
  | .bitAbsx _ => .absx
  | .trbZp _ => .zp
  | .trbAbs _ => .abs
  | .tsbZp _ => .zp
  | .tsbAbs _ => .abs
  | .aslAcc => .acc
  | .aslZp _ => .zp
  | .aslZpx _ => .zpx
  | .aslAbs _ => .abs
  | .aslAbsx _ => .absx
  | .lsrAcc => .acc
  | .lsrZp _ => .zp
  | .lsrZpx _ => .zpx
  | .lsrAbs _ => .abs
  | .lsrAbsx _ => .absx
  | .rolAcc => .acc
  | .rolZp _ => .zp
  | .rolZpx _ => .zpx
  | .rolAbs _ => .abs
  | .rolAbsx _ => .absx
  | .rorAcc => .acc
  | .rorZp _ => .zp
  | .rorZpx _ => .zpx
  | .rorAbs _ => .abs
  | .rorAbsx _ => .absx
  | .bcc _ => .rel
  | .bcs _ => .rel
  | .beq _ => .rel
  | .bne _ => .rel
  | .bmi _ => .rel
  | .bpl _ => .rel
  | .bvc _ => .rel
  | .bvs _ => .rel
  | .bra _ => .rel
  | .jmpAbs _ => .abs
  | .jmpAbsind _ => .absind
  | .jmpAbsxind _ => .absxind
  | .jsr _ => .abs
  | .rts => .imp
  | .rti => .imp
  | .pha => .imp
  | .pla => .imp
  | .php => .imp
  | .plp => .imp
  | .phx => .imp
  | .plx => .imp
  | .phy => .imp
  | .ply => .imp
  | .clc => .imp
  | .cld => .imp
  | .cli => .imp
  | .clv => .imp
  | .sec => .imp
  | .sed => .imp
  | .sei => .imp
  | .brk _ => .brk
  | .nop => .imp
  | .wai => .imp
  | .stp => .imp
  | .rsv02 _ => .nop2
  | .rsv22 _ => .nop2
  | .rsv42 _ => .nop2
  | .rsv44 _ => .nop2
  | .rsv54 _ => .nop2
  | .rsv5C _ _ => .nop3
  | .rsv62 _ => .nop2
  | .rsv82 _ => .nop2
  | .rsvC2 _ => .nop2
  | .rsvD4 _ => .nop2
  | .rsvDC _ _ => .nop3
  | .rsvE2 _ => .nop2
  | .rsvF4 _ => .nop2
  | .rsvFC _ _ => .nop3
  | .rsv03 => .nop1
  | .rsv07 => .nop1
  | .rsv0B => .nop1
  | .rsv0F => .nop1
  | .rsv13 => .nop1
  | .rsv17 => .nop1
  | .rsv1B => .nop1
  | .rsv1F => .nop1
  | .rsv23 => .nop1
  | .rsv27 => .nop1
  | .rsv2B => .nop1
  | .rsv2F => .nop1
  | .rsv33 => .nop1
  | .rsv37 => .nop1
  | .rsv3B => .nop1
  | .rsv3F => .nop1
  | .rsv43 => .nop1
  | .rsv47 => .nop1
  | .rsv4B => .nop1
  | .rsv4F => .nop1
  | .rsv53 => .nop1
  | .rsv57 => .nop1
  | .rsv5B => .nop1
  | .rsv5F => .nop1
  | .rsv63 => .nop1
  | .rsv67 => .nop1
  | .rsv6B => .nop1
  | .rsv6F => .nop1
  | .rsv73 => .nop1
  | .rsv77 => .nop1
  | .rsv7B => .nop1
  | .rsv7F => .nop1
  | .rsv83 => .nop1
  | .rsv87 => .nop1
  | .rsv8B => .nop1
  | .rsv8F => .nop1
  | .rsv93 => .nop1
  | .rsv97 => .nop1
  | .rsv9B => .nop1
  | .rsv9F => .nop1
  | .rsvA3 => .nop1
  | .rsvA7 => .nop1
  | .rsvAB => .nop1
  | .rsvAF => .nop1
  | .rsvB3 => .nop1
  | .rsvB7 => .nop1
  | .rsvBB => .nop1
  | .rsvBF => .nop1
  | .rsvC3 => .nop1
  | .rsvC7 => .nop1
  | .rsvCF => .nop1
  | .rsvD3 => .nop1
  | .rsvD7 => .nop1
  | .rsvDF => .nop1
  | .rsvE3 => .nop1
  | .rsvE7 => .nop1
  | .rsvEB => .nop1
  | .rsvEF => .nop1
  | .rsvF3 => .nop1
  | .rsvF7 => .nop1
  | .rsvFB => .nop1
  | .rsvFF => .nop1

/-- The length of an instruction in bytes (30_encoding R82). -/
def Instr.length (i : Instr) : Nat := i.format.length

end Sys2Proof
end

