-- ==== Sys2Proof/WellFormed.lean ====
section
/-! DEFINITION. What a well-formed instruction is. Every operand field is a whole byte or a whole address (30_encoding
R85) and has that type in `Instr`, so every term of `Instr` is well formed. What can be ill formed is a byte string: it is
one instruction exactly when it is as long as its first byte says (R82, R89). -/

namespace Sys2Proof

/-- `Length(op)`: the length of an instruction from its first byte alone (30_encoding R89), written as the rule writes
it, over the two halves of the byte. -/
def opcodeLength (op : Byte) : Nat :=
  let lo := op.toNat % 16
  let hi := op.toNat / 16
  if lo = 3 ∨ lo = 7 ∨ lo = 11 ∨ lo = 15 then 1
  else if lo = 8 ∨ lo = 10 then 1
  else if op = 0x00 then 2
  else if op = 0x40 ∨ op = 0x60 then 1
  else if op = 0x20 then 3
  else if lo = 0 ∨ lo = 1 ∨ lo = 2 ∨ lo = 4 ∨ lo = 5 ∨ lo = 6 then 2
  else if lo = 9 then (if hi % 2 = 0 then 2 else 3)
  else 3

/-- A byte string that is one whole instruction: not empty, and as long as its first byte says. -/
def wellFormedBytes : List Byte → Bool
  | [] => false
  | op :: rest => rest.length + 1 == opcodeLength op

end Sys2Proof
end

