-- ==== Sys2Proof/Decode.lean ====
section
/-! DEFINITION. The decoder, the encoder, and the host's view of the decoder. The decoder follows main Table 6-3 as
30_encoding R84 and R88 give it: sixteen rows of sixteen opcodes, each with its operand bytes (R85). The encoder is
written from the opcode of each instruction (R119). -/

namespace Sys2Proof

/-- One cell of the matrix: the instruction, from the two bytes after the opcode (as many as its format has). -/
abbrev Cell := Byte → Byte → Instr

/-- Row 0 of the opcode matrix: `00` to `0F`. -/
def opcodeRow0 : List Cell := [
  fun b _ => .brk b,
  fun b _ => .oraIndx b,
  fun b _ => .rsv02 b,
  fun _ _ => .rsv03,
  fun b _ => .tsbZp b,
  fun b _ => .oraZp b,
  fun b _ => .aslZp b,
  fun _ _ => .rsv07,
  fun _ _ => .php,
  fun b _ => .oraImm b,
  fun _ _ => .aslAcc,
  fun _ _ => .rsv0B,
  fun lo hi => .tsbAbs (mkAddr hi lo),
  fun lo hi => .oraAbs (mkAddr hi lo),
  fun lo hi => .aslAbs (mkAddr hi lo),
  fun _ _ => .rsv0F]

/-- Row 1 of the opcode matrix: `10` to `1F`. -/
def opcodeRow1 : List Cell := [
  fun b _ => .bpl b,
  fun b _ => .oraIndy b,
  fun b _ => .oraZpind b,
  fun _ _ => .rsv13,
  fun b _ => .trbZp b,
  fun b _ => .oraZpx b,
  fun b _ => .aslZpx b,
  fun _ _ => .rsv17,
  fun _ _ => .clc,
  fun lo hi => .oraAbsy (mkAddr hi lo),
  fun _ _ => .incAcc,
  fun _ _ => .rsv1B,
  fun lo hi => .trbAbs (mkAddr hi lo),
  fun lo hi => .oraAbsx (mkAddr hi lo),
  fun lo hi => .aslAbsx (mkAddr hi lo),
  fun _ _ => .rsv1F]

/-- Row 2 of the opcode matrix: `20` to `2F`. -/
def opcodeRow2 : List Cell := [
  fun lo hi => .jsr (mkAddr hi lo),
  fun b _ => .andIndx b,
  fun b _ => .rsv22 b,
  fun _ _ => .rsv23,
  fun b _ => .bitZp b,
  fun b _ => .andZp b,
  fun b _ => .rolZp b,
  fun _ _ => .rsv27,
  fun _ _ => .plp,
  fun b _ => .andImm b,
  fun _ _ => .rolAcc,
  fun _ _ => .rsv2B,
  fun lo hi => .bitAbs (mkAddr hi lo),
  fun lo hi => .andAbs (mkAddr hi lo),
  fun lo hi => .rolAbs (mkAddr hi lo),
  fun _ _ => .rsv2F]

/-- Row 3 of the opcode matrix: `30` to `3F`. -/
def opcodeRow3 : List Cell := [
  fun b _ => .bmi b,
  fun b _ => .andIndy b,
  fun b _ => .andZpind b,
  fun _ _ => .rsv33,
  fun b _ => .bitZpx b,
  fun b _ => .andZpx b,
  fun b _ => .rolZpx b,
  fun _ _ => .rsv37,
  fun _ _ => .sec,
  fun lo hi => .andAbsy (mkAddr hi lo),
  fun _ _ => .decAcc,
  fun _ _ => .rsv3B,
  fun lo hi => .bitAbsx (mkAddr hi lo),
  fun lo hi => .andAbsx (mkAddr hi lo),
  fun lo hi => .rolAbsx (mkAddr hi lo),
  fun _ _ => .rsv3F]

/-- Row 4 of the opcode matrix: `40` to `4F`. -/
def opcodeRow4 : List Cell := [
  fun _ _ => .rti,
  fun b _ => .eorIndx b,
  fun b _ => .rsv42 b,
  fun _ _ => .rsv43,
  fun b _ => .rsv44 b,
  fun b _ => .eorZp b,
  fun b _ => .lsrZp b,
  fun _ _ => .rsv47,
  fun _ _ => .pha,
  fun b _ => .eorImm b,
  fun _ _ => .lsrAcc,
  fun _ _ => .rsv4B,
  fun lo hi => .jmpAbs (mkAddr hi lo),
  fun lo hi => .eorAbs (mkAddr hi lo),
  fun lo hi => .lsrAbs (mkAddr hi lo),
  fun _ _ => .rsv4F]

/-- Row 5 of the opcode matrix: `50` to `5F`. -/
def opcodeRow5 : List Cell := [
  fun b _ => .bvc b,
  fun b _ => .eorIndy b,
  fun b _ => .eorZpind b,
  fun _ _ => .rsv53,
  fun b _ => .rsv54 b,
  fun b _ => .eorZpx b,
  fun b _ => .lsrZpx b,
  fun _ _ => .rsv57,
  fun _ _ => .cli,
  fun lo hi => .eorAbsy (mkAddr hi lo),
  fun _ _ => .phy,
  fun _ _ => .rsv5B,
  fun lo hi => .rsv5C lo hi,
  fun lo hi => .eorAbsx (mkAddr hi lo),
  fun lo hi => .lsrAbsx (mkAddr hi lo),
  fun _ _ => .rsv5F]

/-- Row 6 of the opcode matrix: `60` to `6F`. -/
def opcodeRow6 : List Cell := [
  fun _ _ => .rts,
  fun b _ => .adcIndx b,
  fun b _ => .rsv62 b,
  fun _ _ => .rsv63,
  fun b _ => .stzZp b,
  fun b _ => .adcZp b,
  fun b _ => .rorZp b,
  fun _ _ => .rsv67,
  fun _ _ => .pla,
  fun b _ => .adcImm b,
  fun _ _ => .rorAcc,
  fun _ _ => .rsv6B,
  fun lo hi => .jmpAbsind (mkAddr hi lo),
  fun lo hi => .adcAbs (mkAddr hi lo),
  fun lo hi => .rorAbs (mkAddr hi lo),
  fun _ _ => .rsv6F]

/-- Row 7 of the opcode matrix: `70` to `7F`. -/
def opcodeRow7 : List Cell := [
  fun b _ => .bvs b,
  fun b _ => .adcIndy b,
  fun b _ => .adcZpind b,
  fun _ _ => .rsv73,
  fun b _ => .stzZpx b,
  fun b _ => .adcZpx b,
  fun b _ => .rorZpx b,
  fun _ _ => .rsv77,
  fun _ _ => .sei,
  fun lo hi => .adcAbsy (mkAddr hi lo),
  fun _ _ => .ply,
  fun _ _ => .rsv7B,
  fun lo hi => .jmpAbsxind (mkAddr hi lo),
  fun lo hi => .adcAbsx (mkAddr hi lo),
  fun lo hi => .rorAbsx (mkAddr hi lo),
  fun _ _ => .rsv7F]

/-- Row 8 of the opcode matrix: `80` to `8F`. -/
def opcodeRow8 : List Cell := [
  fun b _ => .bra b,
  fun b _ => .staIndx b,
  fun b _ => .rsv82 b,
  fun _ _ => .rsv83,
  fun b _ => .styZp b,
  fun b _ => .staZp b,
  fun b _ => .stxZp b,
  fun _ _ => .rsv87,
  fun _ _ => .dey,
  fun b _ => .bitImm b,
  fun _ _ => .txa,
  fun _ _ => .rsv8B,
  fun lo hi => .styAbs (mkAddr hi lo),
  fun lo hi => .staAbs (mkAddr hi lo),
  fun lo hi => .stxAbs (mkAddr hi lo),
  fun _ _ => .rsv8F]

/-- Row 9 of the opcode matrix: `90` to `9F`. -/
def opcodeRow9 : List Cell := [
  fun b _ => .bcc b,
  fun b _ => .staIndy b,
  fun b _ => .staZpind b,
  fun _ _ => .rsv93,
  fun b _ => .styZpx b,
  fun b _ => .staZpx b,
  fun b _ => .stxZpy b,
  fun _ _ => .rsv97,
  fun _ _ => .tya,
  fun lo hi => .staAbsy (mkAddr hi lo),
  fun _ _ => .txs,
  fun _ _ => .rsv9B,
  fun lo hi => .stzAbs (mkAddr hi lo),
  fun lo hi => .staAbsx (mkAddr hi lo),
  fun lo hi => .stzAbsx (mkAddr hi lo),
  fun _ _ => .rsv9F]

/-- Row A of the opcode matrix: `A0` to `AF`. -/
def opcodeRowA : List Cell := [
  fun b _ => .ldyImm b,
  fun b _ => .ldaIndx b,
  fun b _ => .ldxImm b,
  fun _ _ => .rsvA3,
  fun b _ => .ldyZp b,
  fun b _ => .ldaZp b,
  fun b _ => .ldxZp b,
  fun _ _ => .rsvA7,
  fun _ _ => .tay,
  fun b _ => .ldaImm b,
  fun _ _ => .tax,
  fun _ _ => .rsvAB,
  fun lo hi => .ldyAbs (mkAddr hi lo),
  fun lo hi => .ldaAbs (mkAddr hi lo),
  fun lo hi => .ldxAbs (mkAddr hi lo),
  fun _ _ => .rsvAF]

/-- Row B of the opcode matrix: `B0` to `BF`. -/
def opcodeRowB : List Cell := [
  fun b _ => .bcs b,
  fun b _ => .ldaIndy b,
  fun b _ => .ldaZpind b,
  fun _ _ => .rsvB3,
  fun b _ => .ldyZpx b,
  fun b _ => .ldaZpx b,
  fun b _ => .ldxZpy b,
  fun _ _ => .rsvB7,
  fun _ _ => .clv,
  fun lo hi => .ldaAbsy (mkAddr hi lo),
  fun _ _ => .tsx,
  fun _ _ => .rsvBB,
  fun lo hi => .ldyAbsx (mkAddr hi lo),
  fun lo hi => .ldaAbsx (mkAddr hi lo),
  fun lo hi => .ldxAbsy (mkAddr hi lo),
  fun _ _ => .rsvBF]

/-- Row C of the opcode matrix: `C0` to `CF`. -/
def opcodeRowC : List Cell := [
  fun b _ => .cpyImm b,
  fun b _ => .cmpIndx b,
  fun b _ => .rsvC2 b,
  fun _ _ => .rsvC3,
  fun b _ => .cpyZp b,
  fun b _ => .cmpZp b,
  fun b _ => .decZp b,
  fun _ _ => .rsvC7,
  fun _ _ => .iny,
  fun b _ => .cmpImm b,
  fun _ _ => .dex,
  fun _ _ => .wai,
  fun lo hi => .cpyAbs (mkAddr hi lo),
  fun lo hi => .cmpAbs (mkAddr hi lo),
  fun lo hi => .decAbs (mkAddr hi lo),
  fun _ _ => .rsvCF]

/-- Row D of the opcode matrix: `D0` to `DF`. -/
def opcodeRowD : List Cell := [
  fun b _ => .bne b,
  fun b _ => .cmpIndy b,
  fun b _ => .cmpZpind b,
  fun _ _ => .rsvD3,
  fun b _ => .rsvD4 b,
  fun b _ => .cmpZpx b,
  fun b _ => .decZpx b,
  fun _ _ => .rsvD7,
  fun _ _ => .cld,
  fun lo hi => .cmpAbsy (mkAddr hi lo),
  fun _ _ => .phx,
  fun _ _ => .stp,
  fun lo hi => .rsvDC lo hi,
  fun lo hi => .cmpAbsx (mkAddr hi lo),
  fun lo hi => .decAbsx (mkAddr hi lo),
  fun _ _ => .rsvDF]

/-- Row E of the opcode matrix: `E0` to `EF`. -/
def opcodeRowE : List Cell := [
  fun b _ => .cpxImm b,
  fun b _ => .sbcIndx b,
  fun b _ => .rsvE2 b,
  fun _ _ => .rsvE3,
  fun b _ => .cpxZp b,
  fun b _ => .sbcZp b,
  fun b _ => .incZp b,
  fun _ _ => .rsvE7,
  fun _ _ => .inx,
  fun b _ => .sbcImm b,
  fun _ _ => .nop,
  fun _ _ => .rsvEB,
  fun lo hi => .cpxAbs (mkAddr hi lo),
  fun lo hi => .sbcAbs (mkAddr hi lo),
  fun lo hi => .incAbs (mkAddr hi lo),
  fun _ _ => .rsvEF]

/-- Row F of the opcode matrix: `F0` to `FF`. -/
def opcodeRowF : List Cell := [
  fun b _ => .beq b,
  fun b _ => .sbcIndy b,
  fun b _ => .sbcZpind b,
  fun _ _ => .rsvF3,
  fun b _ => .rsvF4 b,
  fun b _ => .sbcZpx b,
  fun b _ => .incZpx b,
  fun _ _ => .rsvF7,
  fun _ _ => .sed,
  fun lo hi => .sbcAbsy (mkAddr hi lo),
  fun _ _ => .plx,
  fun _ _ => .rsvFB,
  fun lo hi => .rsvFC lo hi,
  fun lo hi => .sbcAbsx (mkAddr hi lo),
  fun lo hi => .incAbsx (mkAddr hi lo),
  fun _ _ => .rsvFF]

/-- The matrix: sixteen rows by the high half of the opcode, sixteen cells by the low half (30_encoding R84, R88). -/
def opcodeMatrix : List (List Cell) :=
  [opcodeRow0, opcodeRow1, opcodeRow2, opcodeRow3, opcodeRow4, opcodeRow5, opcodeRow6, opcodeRow7,
   opcodeRow8, opcodeRow9, opcodeRowA, opcodeRowB, opcodeRowC, opcodeRowD, opcodeRowE, opcodeRowF]

/-- The instruction of an opcode byte and the two bytes after it. Every first byte decodes to something (30_encoding
R80). The default is never reached: the matrix has 256 cells. -/
def decodeAt (op b1 b2 : Byte) : Instr :=
  ((opcodeMatrix.getD (op.toNat / 16) []).getD (op.toNat % 16) (fun _ _ => .nop)) b1 b2

/-- Why a byte string does not decode. No opcode is a reason (30_encoding R80). -/
inductive DecodeError where
  /-- There is no byte at all. -/
  | noBytes
  /-- The string ends inside the instruction of this opcode. -/
  | truncated (op : Byte)
deriving DecidableEq, Repr

/-- The first instruction of a byte string and the rest of the string. Total, and refused only by name. -/
def decode : List Byte → Except DecodeError (Instr × List Byte)
  | [] => .error .noBytes
  | op :: rest =>
    let i := decodeAt op (rest.getD 0 0) (rest.getD 1 0)
    if rest.length + 1 < i.length then .error (.truncated op) else .ok (i, rest.drop (i.length - 1))

/-- The bytes of an instruction: the opcode, then the operand bytes, an address low byte first (30_encoding R82, R85,
R119; 20_memory R54). -/
def encode : Instr → List Byte
  | .ldaImm v => [0xA9, v]
  | .ldaZp z => [0xA5, z]
  | .ldaZpx z => [0xB5, z]
  | .ldaAbs b => [0xAD, loByte b, hiByte b]
  | .ldaAbsx b => [0xBD, loByte b, hiByte b]
  | .ldaAbsy b => [0xB9, loByte b, hiByte b]
  | .ldaIndx z => [0xA1, z]
  | .ldaIndy z => [0xB1, z]
  | .ldaZpind z => [0xB2, z]
  | .ldxImm v => [0xA2, v]
  | .ldxZp z => [0xA6, z]
  | .ldxZpy z => [0xB6, z]
  | .ldxAbs b => [0xAE, loByte b, hiByte b]
  | .ldxAbsy b => [0xBE, loByte b, hiByte b]
  | .ldyImm v => [0xA0, v]
  | .ldyZp z => [0xA4, z]
  | .ldyZpx z => [0xB4, z]
  | .ldyAbs b => [0xAC, loByte b, hiByte b]
  | .ldyAbsx b => [0xBC, loByte b, hiByte b]
  | .staZp z => [0x85, z]
  | .staZpx z => [0x95, z]
  | .staAbs b => [0x8D, loByte b, hiByte b]
  | .staAbsx b => [0x9D, loByte b, hiByte b]
  | .staAbsy b => [0x99, loByte b, hiByte b]
  | .staIndx z => [0x81, z]
  | .staIndy z => [0x91, z]
  | .staZpind z => [0x92, z]
  | .stxZp z => [0x86, z]
  | .stxZpy z => [0x96, z]
  | .stxAbs b => [0x8E, loByte b, hiByte b]
  | .styZp z => [0x84, z]
  | .styZpx z => [0x94, z]
  | .styAbs b => [0x8C, loByte b, hiByte b]
  | .stzZp z => [0x64, z]
  | .stzZpx z => [0x74, z]
  | .stzAbs b => [0x9C, loByte b, hiByte b]
  | .stzAbsx b => [0x9E, loByte b, hiByte b]
  | .tax => [0xAA]
  | .tay => [0xA8]
  | .txa => [0x8A]
  | .tya => [0x98]
  | .tsx => [0xBA]
  | .txs => [0x9A]
  | .adcImm v => [0x69, v]
  | .adcZp z => [0x65, z]
  | .adcZpx z => [0x75, z]
  | .adcAbs b => [0x6D, loByte b, hiByte b]
  | .adcAbsx b => [0x7D, loByte b, hiByte b]
  | .adcAbsy b => [0x79, loByte b, hiByte b]
  | .adcIndx z => [0x61, z]
  | .adcIndy z => [0x71, z]
  | .adcZpind z => [0x72, z]
  | .sbcImm v => [0xE9, v]
  | .sbcZp z => [0xE5, z]
  | .sbcZpx z => [0xF5, z]
  | .sbcAbs b => [0xED, loByte b, hiByte b]
  | .sbcAbsx b => [0xFD, loByte b, hiByte b]
  | .sbcAbsy b => [0xF9, loByte b, hiByte b]
  | .sbcIndx z => [0xE1, z]
  | .sbcIndy z => [0xF1, z]
  | .sbcZpind z => [0xF2, z]
  | .cmpImm v => [0xC9, v]
  | .cmpZp z => [0xC5, z]
  | .cmpZpx z => [0xD5, z]
  | .cmpAbs b => [0xCD, loByte b, hiByte b]
  | .cmpAbsx b => [0xDD, loByte b, hiByte b]
  | .cmpAbsy b => [0xD9, loByte b, hiByte b]
  | .cmpIndx z => [0xC1, z]
  | .cmpIndy z => [0xD1, z]
  | .cmpZpind z => [0xD2, z]
  | .cpxImm v => [0xE0, v]
  | .cpxZp z => [0xE4, z]
  | .cpxAbs b => [0xEC, loByte b, hiByte b]
  | .cpyImm v => [0xC0, v]
  | .cpyZp z => [0xC4, z]
  | .cpyAbs b => [0xCC, loByte b, hiByte b]
  | .incAcc => [0x1A]
  | .incZp z => [0xE6, z]
  | .incZpx z => [0xF6, z]
  | .incAbs b => [0xEE, loByte b, hiByte b]
  | .incAbsx b => [0xFE, loByte b, hiByte b]
  | .inx => [0xE8]
  | .iny => [0xC8]
  | .decAcc => [0x3A]
  | .decZp z => [0xC6, z]
  | .decZpx z => [0xD6, z]
  | .decAbs b => [0xCE, loByte b, hiByte b]
  | .decAbsx b => [0xDE, loByte b, hiByte b]
  | .dex => [0xCA]
  | .dey => [0x88]
  | .andImm v => [0x29, v]
  | .andZp z => [0x25, z]
  | .andZpx z => [0x35, z]
  | .andAbs b => [0x2D, loByte b, hiByte b]
  | .andAbsx b => [0x3D, loByte b, hiByte b]
  | .andAbsy b => [0x39, loByte b, hiByte b]
  | .andIndx z => [0x21, z]
  | .andIndy z => [0x31, z]
  | .andZpind z => [0x32, z]
  | .oraImm v => [0x09, v]
  | .oraZp z => [0x05, z]
  | .oraZpx z => [0x15, z]
  | .oraAbs b => [0x0D, loByte b, hiByte b]
  | .oraAbsx b => [0x1D, loByte b, hiByte b]
  | .oraAbsy b => [0x19, loByte b, hiByte b]
  | .oraIndx z => [0x01, z]
  | .oraIndy z => [0x11, z]
  | .oraZpind z => [0x12, z]
  | .eorImm v => [0x49, v]
  | .eorZp z => [0x45, z]
  | .eorZpx z => [0x55, z]
  | .eorAbs b => [0x4D, loByte b, hiByte b]
  | .eorAbsx b => [0x5D, loByte b, hiByte b]
  | .eorAbsy b => [0x59, loByte b, hiByte b]
  | .eorIndx z => [0x41, z]
  | .eorIndy z => [0x51, z]
  | .eorZpind z => [0x52, z]
  | .bitImm v => [0x89, v]
  | .bitZp z => [0x24, z]
  | .bitZpx z => [0x34, z]
  | .bitAbs b => [0x2C, loByte b, hiByte b]
  | .bitAbsx b => [0x3C, loByte b, hiByte b]
  | .trbZp z => [0x14, z]
  | .trbAbs b => [0x1C, loByte b, hiByte b]
  | .tsbZp z => [0x04, z]
  | .tsbAbs b => [0x0C, loByte b, hiByte b]
  | .aslAcc => [0x0A]
  | .aslZp z => [0x06, z]
  | .aslZpx z => [0x16, z]
  | .aslAbs b => [0x0E, loByte b, hiByte b]
  | .aslAbsx b => [0x1E, loByte b, hiByte b]
  | .lsrAcc => [0x4A]
  | .lsrZp z => [0x46, z]
  | .lsrZpx z => [0x56, z]
  | .lsrAbs b => [0x4E, loByte b, hiByte b]
  | .lsrAbsx b => [0x5E, loByte b, hiByte b]
  | .rolAcc => [0x2A]
  | .rolZp z => [0x26, z]
  | .rolZpx z => [0x36, z]
  | .rolAbs b => [0x2E, loByte b, hiByte b]
  | .rolAbsx b => [0x3E, loByte b, hiByte b]
  | .rorAcc => [0x6A]
  | .rorZp z => [0x66, z]
  | .rorZpx z => [0x76, z]
  | .rorAbs b => [0x6E, loByte b, hiByte b]
  | .rorAbsx b => [0x7E, loByte b, hiByte b]
  | .bcc off => [0x90, off]
  | .bcs off => [0xB0, off]
  | .beq off => [0xF0, off]
  | .bne off => [0xD0, off]
  | .bmi off => [0x30, off]
  | .bpl off => [0x10, off]
  | .bvc off => [0x50, off]
  | .bvs off => [0x70, off]
  | .bra off => [0x80, off]
  | .jmpAbs b => [0x4C, loByte b, hiByte b]
  | .jmpAbsind b => [0x6C, loByte b, hiByte b]
  | .jmpAbsxind b => [0x7C, loByte b, hiByte b]
  | .jsr b => [0x20, loByte b, hiByte b]
  | .rts => [0x60]
  | .rti => [0x40]
  | .pha => [0x48]
  | .pla => [0x68]
  | .php => [0x08]
  | .plp => [0x28]
  | .phx => [0xDA]
  | .plx => [0xFA]
  | .phy => [0x5A]
  | .ply => [0x7A]
  | .clc => [0x18]
  | .cld => [0xD8]
  | .cli => [0x58]
  | .clv => [0xB8]
  | .sec => [0x38]
  | .sed => [0xF8]
  | .sei => [0x78]
  | .brk sig => [0x00, sig]
  | .nop => [0xEA]
  | .wai => [0xCB]
  | .stp => [0xDB]
  | .rsv02 pad => [0x02, pad]
  | .rsv22 pad => [0x22, pad]
  | .rsv42 pad => [0x42, pad]
  | .rsv44 pad => [0x44, pad]
  | .rsv54 pad => [0x54, pad]
  | .rsv5C pad pad2 => [0x5C, pad, pad2]
  | .rsv62 pad => [0x62, pad]
  | .rsv82 pad => [0x82, pad]
  | .rsvC2 pad => [0xC2, pad]
  | .rsvD4 pad => [0xD4, pad]
  | .rsvDC pad pad2 => [0xDC, pad, pad2]
  | .rsvE2 pad => [0xE2, pad]
  | .rsvF4 pad => [0xF4, pad]
  | .rsvFC pad pad2 => [0xFC, pad, pad2]
  | .rsv03 => [0x03]
  | .rsv07 => [0x07]
  | .rsv0B => [0x0B]
  | .rsv0F => [0x0F]
  | .rsv13 => [0x13]
  | .rsv17 => [0x17]
  | .rsv1B => [0x1B]
  | .rsv1F => [0x1F]
  | .rsv23 => [0x23]
  | .rsv27 => [0x27]
  | .rsv2B => [0x2B]
  | .rsv2F => [0x2F]
  | .rsv33 => [0x33]
  | .rsv37 => [0x37]
  | .rsv3B => [0x3B]
  | .rsv3F => [0x3F]
  | .rsv43 => [0x43]
  | .rsv47 => [0x47]
  | .rsv4B => [0x4B]
  | .rsv4F => [0x4F]
  | .rsv53 => [0x53]
  | .rsv57 => [0x57]
  | .rsv5B => [0x5B]
  | .rsv5F => [0x5F]
  | .rsv63 => [0x63]
  | .rsv67 => [0x67]
  | .rsv6B => [0x6B]
  | .rsv6F => [0x6F]
  | .rsv73 => [0x73]
  | .rsv77 => [0x77]
  | .rsv7B => [0x7B]
  | .rsv7F => [0x7F]
  | .rsv83 => [0x83]
  | .rsv87 => [0x87]
  | .rsv8B => [0x8B]
  | .rsv8F => [0x8F]
  | .rsv93 => [0x93]
  | .rsv97 => [0x97]
  | .rsv9B => [0x9B]
  | .rsv9F => [0x9F]
  | .rsvA3 => [0xA3]
  | .rsvA7 => [0xA7]
  | .rsvAB => [0xAB]
  | .rsvAF => [0xAF]
  | .rsvB3 => [0xB3]
  | .rsvB7 => [0xB7]
  | .rsvBB => [0xBB]
  | .rsvBF => [0xBF]
  | .rsvC3 => [0xC3]
  | .rsvC7 => [0xC7]
  | .rsvCF => [0xCF]
  | .rsvD3 => [0xD3]
  | .rsvD7 => [0xD7]
  | .rsvDF => [0xDF]
  | .rsvE3 => [0xE3]
  | .rsvE7 => [0xE7]
  | .rsvEB => [0xEB]
  | .rsvEF => [0xEF]
  | .rsvF3 => [0xF3]
  | .rsvF7 => [0xF7]
  | .rsvFB => [0xFB]
  | .rsvFF => [0xFF]

/-- The host's view of the decoder: the instruction read from the bytes of `w`, bits 7..0 the first byte, every bit from
`nbits` on being 0. -/
def decodeTableWord (nbits w : Nat) : Option Instr :=
  let v := w % 2 ^ nbits
  match decode [BitVec.ofNat 8 v, BitVec.ofNat 8 (v / 256), BitVec.ofNat 8 (v / 65536)] with
  | .ok (i, _) => some i
  | .error _ => none

end Sys2Proof
end

