-- ==== Sys2Proof/Config.lean ====
section
/-! DEFINITION. What the spec leaves open, as constants with no body. Nothing can be proved of their
values, so a claim proved in the model holds whatever they are. Each is applied to a plain number, the
free-value counter `draws` of State, so that every use is a fresh draw (log entries 3, 5, 6, 10). -/

namespace Sys2Proof

/-- `DECIMAL_V`: the overflow flag after a decimal ADC or SBC (42 R151, R153; 93 U2). DESIGN CHOICE, log entry 5. -/
opaque Config.decimalV : Nat → Bool

/-- `DECIMAL_INVALID`: A after a decimal ADC or SBC on an operand that is not valid BCD (93 U3). DESIGN CHOICE,
log entry 6. -/
opaque Config.invalidA : Nat → Byte
/-- `DECIMAL_INVALID`: N in the same case. -/
opaque Config.invalidN : Nat → Bool
/-- `DECIMAL_INVALID`: V in the same case. -/
opaque Config.invalidV : Nat → Bool
/-- `DECIMAL_INVALID`: Z in the same case. -/
opaque Config.invalidZ : Nat → Bool
/-- `DECIMAL_INVALID`: C in the same case. -/
opaque Config.invalidC : Nat → Bool

/-- A after a reset event (10 R42; 93 U1). DESIGN CHOICE, log entry 3. -/
opaque Config.resetA : Nat → Byte
/-- X after a reset event. -/
opaque Config.resetX : Nat → Byte
/-- Y after a reset event. -/
opaque Config.resetY : Nat → Byte
/-- S after a reset event. -/
opaque Config.resetS : Nat → Byte
/-- N after a reset event. -/
opaque Config.resetN : Nat → Bool
/-- V after a reset event. -/
opaque Config.resetV : Nat → Bool
/-- Z after a reset event. -/
opaque Config.resetZ : Nat → Bool
/-- C after a reset event. -/
opaque Config.resetC : Nat → Bool

/-- The address of an extra bus read that no table gives (93 U4; 90 C7), by opcode byte and cycle number.
It appears only in the bus annotation, never in a step. DESIGN CHOICE, log entry 10. -/
opaque Config.unstatedReadAddr : Byte → Nat → Addr

/-- Whether the extra read of an indexed store that does not cross a page is at the effective address
(else at the last instruction byte), by opcode byte and effective address (93 U9). DESIGN CHOICE,
log entry 10. -/
opaque Config.uncrossedStoreReadsEa : Byte → Addr → Bool

/-- How many cycles beyond the opcode fetch a column-F opcode takes (30 R88; 93 U4 b). DESIGN CHOICE,
log entry 10. -/
opaque Config.columnFExtraCycles : Byte → Nat

end Sys2Proof
end

