-- ==== Sys2Proof/Machine/Memory.lean ====
section
/-! DEFINITION. The one address space of 65,536 bytes (20_memory R50), held as the list of the bytes that
differ from what an unlisted address reads as, in one canonical form. -/

namespace Sys2Proof.Machine

/-- Memory: (address, byte) pairs. See `Memory.wf` for the canonical form. -/
abbrev Memory := List Host.Cell

/-- What an unlisted address reads as. The spec leaves `MEM0` to the platform (00_scope R5; 92 D1).
DESIGN CHOICE, unsafe: $00 everywhere (log entry 2). -/
def Memory.unlisted : Byte := 0

/-- The canonical form: addresses strictly rising and inside the 16-bit space, and no entry equal to what an
unlisted address reads as. Equal memories are equal lists. -/
abbrev Memory.wf (m : Memory) : Prop :=
  m.Pairwise (fun c d => c.1 < d.1) ∧ ∀ c ∈ m, c.1 < 65536 ∧ c.2 ≠ Memory.unlisted

/-- The byte listed at `n`, or what an unlisted address reads as. -/
def Memory.lookup : Memory → Nat → Byte
  | [], _ => Memory.unlisted
  | (k, v) :: m, n => if k = n then v else Memory.lookup m n

/-- `MemRead(addr, 1)` (20_memory R52): the byte last written to a RAM location, or the one the platform supplies. -/
def Memory.read (m : Memory) (a : Addr) : Byte := Memory.lookup m a.toNat

/-- The list without its entries at `n`. -/
def Memory.dropAt (m : Memory) (n : Nat) : Memory := m.filter (fun c => c.1 != n)

/-- The list with one entry put before the first entry of a higher address. -/
def Memory.insertAt : Memory → Nat → Byte → Memory
  | [], n, v => [(n, v)]
  | (k, w) :: m, n, v => if n < k then (n, v) :: (k, w) :: m else (k, w) :: Memory.insertAt m n v

/-- The memory with another byte at one address (20_memory R53), keeping the canonical form. -/
def Memory.write (m : Memory) (a : Addr) (v : Byte) : Memory :=
  if v = Memory.unlisted then Memory.dropAt m a.toNat else Memory.insertAt (Memory.dropAt m a.toNat) a.toNat v

/-- `MemRead16(p)`: low byte at `p`, high byte at `p + 1` modulo 65536 (20_memory R55). -/
def Memory.read16 (m : Memory) (p : Addr) : Addr := mkAddr (Memory.read m (p + 1)) (Memory.read m p)

/-- `MemRead16ZP(z)`: both bytes in page zero (20_memory R56). -/
def Memory.read16ZP (m : Memory) (z : Byte) : Addr :=
  mkAddr (Memory.read m (zext (z + 1))) (Memory.read m (zext z))

/-- Several writes, in order: what another bus agent stored (20_memory R72). -/
def Memory.writeAll : Memory → List (Addr × Byte) → Memory
  | m, [] => m
  | m, (a, v) :: ws => Memory.writeAll (Memory.write m a v) ws

end Sys2Proof.Machine
end

