-- ==== Sys2Proof/Machine/Board.lean ====
section
/-! DEFINITION. The board around the processor: the parameters DEVICES, PACKAGE and CLOCK_MHZ (00_scope R5; 92 D1). They are
fixed while the machine runs: no step changes them. -/

namespace Sys2Proof.Machine

/-- What the board has at an address (92 D1). -/
inductive LocationKind where
  /-- A location that returns what was last written (20_memory R52, R53). -/
  | ram
  /-- Its byte is the platform's, and a write by the processor does not change it (20 R52, R53; log entry 7). -/
  | rom
  /-- Input or output: its byte is what the device supplies (20 R52; log entry 7). -/
  | device
  /-- Nothing drives the data bus: any byte (93 U7; log entry 7). -/
  | unmapped
deriving DecidableEq, Repr

/-- The addresses from `first` to `last`, both included, and what is there. -/
structure Region where
  first : Addr
  last : Addr
  kind : LocationKind
deriving DecidableEq, Repr

/-- `PACKAGE` (00_scope R5): the outputs ML- and VP- exist on the 44-lead package only. -/
inductive Package where
  | pdip40
  | plcc44
deriving DecidableEq, Repr

/-- `CLOCK_MHZ` (00_scope R5). -/
inductive ClockRate where
  | mhz2
  | mhz4
  | mhz6
  | mhz8
  | mhz10
deriving DecidableEq, Repr

/-- The board. -/
structure Board where
  /-- `DEVICES`: the first region that holds an address says what is there. An address in no region is RAM. -/
  devices : List Region
  /-- `PACKAGE`. -/
  package : Package
  /-- `CLOCK_MHZ`. -/
  clock : ClockRate
deriving DecidableEq, Repr

/-- The spec's default platform, RAM at every address (92 D1). The spec allows any package and any clock.
DESIGN CHOICE: the 44-lead package at 4 MHz (log entry 7). -/
def Board.allRam : Board := ⟨[], .plcc44, .mhz4⟩

/-- What the first region that holds `a` says is there, RAM if none does. -/
def kindIn : List Region → Addr → LocationKind
  | [], _ => .ram
  | r :: rs, a => if r.first.toNat ≤ a.toNat ∧ a.toNat ≤ r.last.toNat then r.kind else kindIn rs a

/-- What the board has at `a` (20_memory R62). -/
def Board.kindAt (b : Board) (a : Addr) : LocationKind := kindIn b.devices a

/-- Memory after the processor writes `v` at `a`: RAM holds the byte, and elsewhere what reads there stays what the platform
supplies. DESIGN CHOICE, unsafe: what such a write does at once (20_memory R53; log entry 7). -/
def Board.write (b : Board) (m : Memory) (a : Addr) (v : Byte) : Memory :=
  match b.kindAt a with
  | .ram => Memory.write m a v
  | .rom | .device | .unmapped => m

/-- The clock rate in megahertz. -/
def ClockRate.mhz : ClockRate → Nat
  | .mhz2 => 2
  | .mhz4 => 4
  | .mhz6 => 6
  | .mhz8 => 8
  | .mhz10 => 10

end Sys2Proof.Machine
end

