-- ==== Sys2Proof/Machine/State.lean ====
section
/-! DEFINITION. The machine's state, its (absent) faults, its refusals, and the state right after reset. -/

namespace Sys2Proof.Machine

/-- The six stored flags of the processor status register P (10_state R26 to R32). Bits 5 and 4 of the byte are
not state (R33, R34): they exist only in pushed bytes. -/
structure Status where
  /-- Negative, bit 7 (R27). -/
  n : Bool
  /-- Overflow, bit 6 (R28). -/
  v : Bool
  /-- Decimal, bit 3 (R29). -/
  d : Bool
  /-- Interrupt disable, bit 2 (R30). -/
  i : Bool
  /-- Zero, bit 1 (R31). -/
  z : Bool
  /-- Carry, bit 0 (R32). -/
  c : Bool
deriving DecidableEq, Repr

/-- The run state (10_state R40). -/
inductive RunState where
  | running
  | waiting
  | stopped
deriving DecidableEq, Repr

/-- What the environment does at one instruction boundary (60_exceptions R260; 20_memory R72). DESIGN CHOICE,
unsafe: events arrive at boundaries only (log entry 4). -/
structure Inputs where
  /-- RES- was low for two or more cycles and has gone high: a reset is requested (60 R266). -/
  reset : Bool
  /-- A falling edge on NMI- since the last boundary (10 R37). -/
  nmiEdge : Bool
  /-- IRQ- is low when it is sampled for this boundary (10 R38). -/
  irqLow : Bool
  /-- A falling edge on SO- since the last boundary (10 R39). -/
  soEdge : Bool
  /-- RDY is held low by the board at this boundary (20 R72; 60 R260). -/
  rdyLow : Bool
  /-- The bytes that other bus agents wrote, or that the platform now supplies at ROM, device or unmapped locations, since
  the last boundary and in order (20 R51, R52, R72). -/
  writes : List (Addr × Byte)
deriving DecidableEq, Repr

/-- The inputs of an environment that drives nothing: every input reads high, inactive (70 R304). -/
def Inputs.idle : Inputs := ⟨false, false, false, false, false, []⟩

/-- Everything the spec gives the machine (10_state R20 to R41), the environment's coming inputs, and the
model's own counter of free values. -/
structure State where
  /-- The accumulator A (R20). -/
  a : Byte
  /-- The index register X (R21). -/
  x : Byte
  /-- The index register Y (R22). -/
  y : Byte
  /-- The stack pointer S (R23). -/
  sp : Byte
  /-- The program counter PC (R24). -/
  pc : Addr
  /-- The stored flags of P (R26 to R32). -/
  p : Status
  /-- `nmi_pending`: an NMI- edge is latched (R37). -/
  nmiPending : Bool
  /-- `run` (R40). -/
  run : RunState
  /-- The 65,536 bytes of memory (20_memory R50): what a read of each address gives. -/
  mem : Memory
  /-- ENV: what the environment does at the coming boundaries, the next one first. After the list's end it
  drives nothing (60 R260; 70 R304). -/
  env : List Inputs
  /-- The board: DEVICES, PACKAGE and CLOCK_MHZ (00_scope R5). No step changes it. -/
  board : Board
  /-- The MODEL's own field: how many times values the spec leaves open were drawn (log entry 3). -/
  draws : Nat
deriving DecidableEq, Repr

/-- The machine has no faults (60_exceptions R274), so this type has no constructor and a step that answers a
fault cannot be written. -/
inductive Fault where
deriving DecidableEq, Repr

/-- Refusals. No meaning of this model answers one. -/
inductive Refusal where
  /-- Raised only by an arm of `exec` whose instruction has no meaning yet (none is left). Safe: the model stops
  where the hardware goes on. -/
  | notModelled (mnemonic : String)
deriving DecidableEq, Repr

/-- What one step or one meaning answers. -/
abbrev Out := Host.Outcome State Fault Refusal

/-- The machine right after the reset sequence (10_state R42; 60 R266; 70 R301): PC from the reset vector, I = 1,
D = 0, no NMI pending, running, memory with nothing listed, an environment that drives nothing, the default platform
(92 D1). A, X, Y, S, N, V, Z and C are unspecified by the spec. DESIGN CHOICE, unsafe: zero (log entry 1). -/
def State.reset : State where
  a := 0
  x := 0
  y := 0
  sp := 0
  pc := Memory.read16 [] 0xFFFC
  p := ⟨false, false, false, true, false, false⟩
  nmiPending := false
  run := .running
  mem := []
  env := []
  board := Board.allRam
  draws := 0

end Sys2Proof.Machine
end

