-- ==== Sys2Proof/Machine/Flags.lean ====
section
/-! DEFINITION. Every flag computation of the spec: SetNZ, the pushed image of P, LoadP (00 R8; 10 R35, R36), the
binary and decimal sums and differences (42 R150 to R153), and the comparison (42 R154). Sums are computed in
unbounded integers and narrowed at the end, as the rules say. -/

namespace Sys2Proof.Machine

/-- `SetNZ(v)`: N is bit 7 of the result, Z says the result is zero (00_scope R8). -/
def Status.setNZ (p : Status) (v : Byte) : Status := { p with n := v.getLsbD 7, z := v == 0 }

/-- `PImage(b)`: the byte pushed for P, with bit 5 one and bit 4 equal to `b` (10_state R35). -/
def Status.image (p : Status) (b : Bool) : Byte :=
  BitVec.ofNat 8 (p.n.toNat * 128 + p.v.toNat * 64 + 32 + b.toNat * 16 + p.d.toNat * 8 + p.i.toNat * 4
    + p.z.toNat * 2 + p.c.toNat)

/-- `LoadP(v)`: the six flags from a pulled byte. Bits 5 and 4 are ignored (10_state R36). -/
def loadP (v : Byte) : Status :=
  ⟨v.getLsbD 7, v.getLsbD 6, v.getLsbD 3, v.getLsbD 2, v.getLsbD 1, v.getLsbD 0⟩

/-- A result byte with its carry and signed overflow. -/
structure AluResult where
  r : Byte
  c : Bool
  v : Bool
deriving DecidableEq, Repr

/-- `AddBin(a, m, c)` (42_arithmetic R150). -/
def addBin (a m : Byte) (c : Bool) : AluResult :=
  let sum : Nat := a.toNat + m.toNat + c.toNat
  let ssum : Int := a.toInt + m.toInt + c.toNat
  ⟨BitVec.ofNat 8 sum, decide (255 < sum), decide (ssum < -128) || decide (127 < ssum)⟩

/-- `SubBin(a, m, c)`: the carry in is an inverted borrow, and so is the carry out (42_arithmetic R152, 93 G4). -/
def subBin (a m : Byte) (c : Bool) : AluResult :=
  let diff : Int := (a.toNat : Int) - m.toNat - (1 - c.toNat)
  let sdiff : Int := a.toInt - m.toInt - (1 - c.toNat)
  ⟨BitVec.ofInt 8 diff, decide (0 ≤ diff), decide (sdiff < -128) || decide (127 < sdiff)⟩

/-- Valid packed BCD: each 4-bit half is in 0 to 9 (42_arithmetic R151). -/
def bcdValid (v : Byte) : Bool := decide (v.toNat / 16 ≤ 9) && decide (v.toNat % 16 ≤ 9)

/-- `dec(v)`: the number a packed BCD byte stands for (42_arithmetic R151). -/
def bcdDecode (v : Byte) : Nat := v.toNat / 16 * 10 + v.toNat % 16

/-- `bcd(n)`: the packed BCD byte of a number from 0 to 99 (42_arithmetic R151). -/
def bcdEncode (n : Nat) : Byte := BitVec.ofNat 8 (n / 10 * 16 + n % 10)

/-- `AddDec(a, m, c)`: the decimal result and carry, for valid BCD operands (42_arithmetic R151). -/
def addDec (a m : Byte) (c : Bool) : Byte × Bool :=
  let sum := bcdDecode a + bcdDecode m + c.toNat
  (bcdEncode (sum % 100), decide (99 < sum))

/-- `SubDec(a, m, c)`: the decimal result and carry, for valid BCD operands (42_arithmetic R153). -/
def subDec (a m : Byte) (c : Bool) : Byte × Bool :=
  let diff : Int := (bcdDecode a : Int) - bcdDecode m - (1 - c.toNat)
  (bcdEncode (diff % 100).toNat, decide (0 ≤ diff))

/-- `Compare(r, m)`: C says `r ≥ m` unsigned, Z says equal, N is bit 7 of the difference (42_arithmetic R154). V, D
and I are kept. -/
def Status.compare (p : Status) (r m : Byte) : Status :=
  let diff : Int := (r.toNat : Int) - m.toNat
  { p with c := decide (0 ≤ diff), z := decide (diff = 0), n := (BitVec.ofInt 8 diff).getLsbD 7 }

/-- ASL's result and flags: C is the old bit 7, zero enters bit 0 (44 R181). -/
def aslResult (m : Byte) (p : Status) : Byte × Status :=
  let r := BitVec.ofNat 8 (m.toNat * 2)
  (r, ({ p with c := m.getLsbD 7 } : Status).setNZ r)

/-- LSR's result and flags: C is the old bit 0, zero enters bit 7, N is 0 (44 R182). -/
def lsrResult (m : Byte) (p : Status) : Byte × Status :=
  let r := BitVec.ofNat 8 (m.toNat / 2)
  (r, { p with c := m.getLsbD 0, n := false, z := r == 0 })

/-- ROL's result and flags: C is the old bit 7, the old C enters bit 0 (44 R183). -/
def rolResult (m : Byte) (p : Status) : Byte × Status :=
  let r := BitVec.ofNat 8 (m.toNat * 2 % 256 + p.c.toNat)
  (r, ({ p with c := m.getLsbD 7 } : Status).setNZ r)

/-- ROR's result and flags: C is the old bit 0, the old C enters bit 7 (44 R184). -/
def rorResult (m : Byte) (p : Status) : Byte × Status :=
  let r := BitVec.ofNat 8 (m.toNat / 2 + p.c.toNat * 128)
  (r, ({ p with c := m.getLsbD 0 } : Status).setNZ r)

/-- INC's result and flags: binary whatever D is (42 R160, 93 G6). -/
def incResult (m : Byte) (p : Status) : Byte × Status := (m + 1, p.setNZ (m + 1))

/-- DEC's result and flags: binary whatever D is (42 R163, 93 G6). -/
def decResult (m : Byte) (p : Status) : Byte × Status := (m - 1, p.setNZ (m - 1))

/-- TRB's result and flags, for the accumulator `a`: Z tests the old byte, then the bits of `a` are cleared (43 R174). -/
def trbResult (a m : Byte) (p : Status) : Byte × Status := (m &&& ~~~a, { p with z := (a &&& m) == 0 })

/-- TSB's result and flags, for the accumulator `a`: Z tests the old byte, then the bits of `a` are set (43 R175). -/
def tsbResult (a m : Byte) (p : Status) : Byte × Status := (m ||| a, { p with z := (a &&& m) == 0 })

end Sys2Proof.Machine
end

