-- ==== Sys2Proof/Machine/Ops.lean ====
section
/-! DEFINITION. The named operations over registers, memory and the stack, taking an exception (the interrupt
sequence, the reset sequence) and returning from one. -/

namespace Sys2Proof.Machine

/-- `A <- v` (10_state R20). -/
def State.setA (s : State) (v : Byte) : State := { s with a := v }
/-- `X <- v` (10_state R21). -/
def State.setX (s : State) (v : Byte) : State := { s with x := v }
/-- `Y <- v` (10_state R22). -/
def State.setY (s : State) (v : Byte) : State := { s with y := v }
/-- `S <- v` (10_state R23). -/
def State.setSp (s : State) (v : Byte) : State := { s with sp := v }
/-- `PC <- v` (10_state R24). -/
def State.setPc (s : State) (v : Addr) : State := { s with pc := v }
/-- The six flags of P (10_state R26). -/
def State.setP (s : State) (v : Status) : State := { s with p := v }
/-- `nmi_pending <- v` (10_state R37). -/
def State.setNmi (s : State) (v : Bool) : State := { s with nmiPending := v }
/-- `run <- v` (10_state R40). -/
def State.setRun (s : State) (v : RunState) : State := { s with run := v }
/-- The whole memory. -/
def State.setMem (s : State) (v : Memory) : State := { s with mem := v }
/-- The model's counter of free values after one draw (log entry 3). -/
def State.drawn (s : State) : State := { s with draws := s.draws + 1 }

/-- `MemWrite(addr, 1, v)` of the processor, on the board it stands on (20_memory R53). -/
def State.store (s : State) (a : Addr) (v : Byte) : State := s.setMem (s.board.write s.mem a v)

/-- `SetNZ(v)` (00_scope R8). -/
def State.setNZ (s : State) (v : Byte) : State := s.setP (s.p.setNZ v)

/-- PC after the fetch of an instruction of `n` bytes: each `Fetch8` adds one modulo 65536 (10_state R25; 30 R81). -/
def State.advance (s : State) (n : Nat) : State := s.setPc (s.pc + BitVec.ofNat 16 n)

/-- `Push8(v)`: write at `$0100 + S`, then decrement S (20_memory R58). -/
def State.push (s : State) (v : Byte) : State := (s.store (stackAddr s.sp) v).setSp (s.sp - 1)

/-- The byte `Pull8()` returns: the one at `$0100 + S` after S is incremented (20_memory R59). -/
def State.pulled (s : State) : Byte := Memory.read s.mem (stackAddr (s.sp + 1))

/-- The state `Pull8()` leaves: S incremented (20_memory R59). -/
def State.pull (s : State) : State := s.setSp (s.sp + 1)

/-- The NMI- vector's location (20_memory R62; 60 R261). -/
def nmiVector : Addr := 0xFFFA
/-- The RES- vector's location. -/
def resetVector : Addr := 0xFFFC
/-- The IRQ- and BRK vector's location. -/
def irqVector : Addr := 0xFFFE

/-- `InterruptSequence(vector, b, ret)`: push PCH, PCL and the image of P with bit 4 equal to `b`, then set I, clear
D and load PC from the vector (60_exceptions R270). The one operation that takes an exception: NMI, IRQ and BRK. -/
def interruptSequence (vector : Addr) (b : Bool) (ret : Addr) (s : State) : State :=
  let t := ((s.push (hiByte ret)).push (loByte ret)).push (s.p.image b)
  (t.setP { s.p with i := true, d := false }).setPc (Memory.read16 t.mem vector)

/-- What RTI does after its fetch: pull P (bits 5 and 4 ignored), PCL, PCH (46_jump_call R208; 60 R272). -/
def returnFromInterrupt (s : State) : State :=
  let s1 := s.pull
  let s2 := s1.pull
  let s3 := s2.pull
  (s3.setP (loadP s.pulled)).setPc (mkAddr s2.pulled s1.pulled)

/-- `ResetSequence()`: I set, D clear, PC from the reset vector, no NMI pending, running, memory unchanged. A, X, Y,
S, N, V, Z and C are unspecified: free values (60_exceptions R266; 10 R42; 93 U1; DESIGN CHOICE, log entry 3). -/
def resetSequence (s : State) : State :=
  { s with
    a := Config.resetA s.draws
    x := Config.resetX s.draws
    y := Config.resetY s.draws
    sp := Config.resetS s.draws
    p := ⟨Config.resetN s.draws, Config.resetV s.draws, false, true, Config.resetZ s.draws, Config.resetC s.draws⟩
    pc := Memory.read16 s.mem resetVector
    nmiPending := false
    run := .running
    draws := s.draws + 1 }

/-- NMI recognition: `nmi_pending` cleared, running, the sequence through `$FFFA` with bit 4 zero (60_exceptions R263). -/
def takeNmi (s : State) : State := interruptSequence nmiVector false s.pc ((s.setNmi false).setRun .running)

/-- IRQ recognition: running, the sequence through `$FFFE` with bit 4 zero (60_exceptions R264). -/
def takeIrq (s : State) : State := interruptSequence irqVector false s.pc (s.setRun .running)

end Sys2Proof.Machine
end

