-- ==== Sys2Proof/Machine/Operands.lean ====
section
/-! DEFINITION. The operand forms: EA(mode), Operand(mode), and the target of a read-modify-write instruction
(40_addressing_modes R101, R102; 44 R180). They read X, Y, A and memory as they are before the instruction. -/

namespace Sys2Proof.Machine

/-- The eleven addressing modes that have an effective address, each with its operand bytes (40 R101). -/
inductive MemMode where
  /-- Zero page `$nn` (R105). -/
  | zp (z : Byte)
  /-- Zero page indexed `$nn,X` (R111). -/
  | zpx (z : Byte)
  /-- Zero page indexed `$nn,Y` (R112). -/
  | zpy (z : Byte)
  /-- Absolute `$nnnn` (R104). -/
  | abs (b : Addr)
  /-- Absolute indexed `$nnnn,X` (R113). -/
  | absx (b : Addr)
  /-- Absolute indexed `$nnnn,Y` (R114). -/
  | absy (b : Addr)
  /-- Zero page indexed indirect `($nn,X)` (R108). -/
  | indx (z : Byte)
  /-- Indirect indexed `($nn),Y` (R110). -/
  | indy (z : Byte)
  /-- Zero page indirect `($nn)` (R116). -/
  | zpind (z : Byte)
  /-- Absolute indirect `($nnnn)`, JMP only (R117). -/
  | absind (b : Addr)
  /-- Absolute indexed indirect `($nnnn,X)`, JMP only (R109). -/
  | absxind (b : Addr)
deriving DecidableEq, Repr

/-- Bytes of an instruction in this mode, the opcode included (30_encoding R83). -/
def MemMode.length : MemMode → Nat
  | .zp _ | .zpx _ | .zpy _ | .indx _ | .indy _ | .zpind _ => 2
  | .abs _ | .absx _ | .absy _ | .absind _ | .absxind _ => 3

/-- `EA(mode)`, the effective address (40_addressing_modes R101). -/
def effAddr (m : MemMode) (s : State) : Addr :=
  match m with
  | .zp z => zext z
  | .zpx z => zext (z + s.x)
  | .zpy z => zext (z + s.y)
  | .abs b => b
  | .absx b => b + zext s.x
  | .absy b => b + zext s.y
  | .indx z => Memory.read16ZP s.mem (z + s.x)
  | .indy z => Memory.read16ZP s.mem z + zext s.y
  | .zpind z => Memory.read16ZP s.mem z
  | .absind b => Memory.read16 s.mem b
  | .absxind b => Memory.read16 s.mem (b + zext s.x)

/-- Where a reading instruction takes its operand from. -/
inductive Source where
  /-- Immediate `#$nn` (40 R103). -/
  | imm (v : Byte)
  | mem (m : MemMode)
deriving DecidableEq, Repr

/-- Bytes of an instruction with this operand, the opcode included. -/
def Source.length : Source → Nat
  | .imm _ => 2
  | .mem m => m.length

/-- `Operand(mode)` (40_addressing_modes R102). -/
def operand (src : Source) (s : State) : Byte :=
  match src with
  | .imm v => v
  | .mem m => Memory.read s.mem (effAddr m s)

/-- What a read-modify-write instruction works on (44 R180). -/
inductive Target where
  /-- The accumulator (40 R107). -/
  | acc
  | mem (m : MemMode)
deriving DecidableEq, Repr

/-- `RMW(mode, f)`: one read and one write of the same address, or of A. `f` gives the result and the flags
(44_shift_rotate R180). DESIGN CHOICE, unsafe: the read and the write are atomic against other bus agents, the named
assumption "arbiter honours ML-" (20_memory R68; 92 D11; log entry 13). -/
def rmw (tgt : Target) (f : Byte → Status → Byte × Status) (s : State) : State :=
  match tgt with
  | .acc =>
    let q := f s.a s.p
    ((s.advance 1).setA q.1).setP q.2
  | .mem m =>
    let q := f (Memory.read s.mem (effAddr m s)) s.p
    ((s.advance m.length).store (effAddr m s) q.1).setP q.2

end Sys2Proof.Machine
end

