-- ==== Sys2Proof/Machine/Arithmetic.lean ====
section
/-! DEFINITION. Add, subtract, compare, increment and decrement (42_arithmetic R150 to R165).
One definition per instruction, over the shared operations. -/

namespace Sys2Proof.Machine

/-- A decimal ADC or SBC after its fetch: on valid BCD operands the result, C, N and Z are determined and V is a free
value (42 R151, R153; 93 U2; DESIGN CHOICE, log entry 5). On other operands A, N, V, Z and C are free values and the instruction still
completes (93 U3; DESIGN CHOICE, log entry 6). -/
def decimalResult (valid : Bool) (r : Byte × Bool) (s : State) : State :=
  if valid then
    ((s.setA r.1).setP (({ s.p with c := r.2, v := Config.decimalV s.draws } : Status).setNZ r.1)).drawn
  else
    ((s.setA (Config.invalidA s.draws)).setP
      { s.p with
        n := Config.invalidN s.draws
        v := Config.invalidV s.draws
        z := Config.invalidZ s.draws
        c := Config.invalidC s.draws }).drawn

/-- A binary ADC or SBC after its fetch: A, C, V, N and Z from the sum or difference (42 R155, R156). -/
def binaryResult (r : AluResult) (s : State) : State :=
  (s.setA r.r).setP (({ s.p with c := r.c, v := r.v } : Status).setNZ r.r)

/-- ADC (42 R155). -/
def addWithCarry (src : Source) (s : State) : State :=
  let m := operand src s
  if s.p.d then decimalResult (bcdValid s.a && bcdValid m) (addDec s.a m s.p.c) (s.advance src.length)
  else binaryResult (addBin s.a m s.p.c) (s.advance src.length)

/-- SBC (42 R156). -/
def subWithBorrow (src : Source) (s : State) : State :=
  let m := operand src s
  if s.p.d then decimalResult (bcdValid s.a && bcdValid m) (subDec s.a m s.p.c) (s.advance src.length)
  else binaryResult (subBin s.a m s.p.c) (s.advance src.length)

/-- CMP: `Compare(A, m)` (42 R157). -/
def compareA (src : Source) (s : State) : State := (s.advance src.length).setP (s.p.compare s.a (operand src s))

/-- CPX: `Compare(X, m)` (42 R158). -/
def compareX (src : Source) (s : State) : State := (s.advance src.length).setP (s.p.compare s.x (operand src s))

/-- CPY: `Compare(Y, m)` (42 R159). -/
def compareY (src : Source) (s : State) : State := (s.advance src.length).setP (s.p.compare s.y (operand src s))

/-- `69` ADC immediate (R155). -/
def execAdcImm (v : Byte) (s : State) : Out := .next (addWithCarry (.imm v) s)

/-- `65` ADC zero page (R155). -/
def execAdcZp (z : Byte) (s : State) : Out := .next (addWithCarry (.mem (.zp z)) s)

/-- `75` ADC zero page,X (R155). -/
def execAdcZpx (z : Byte) (s : State) : Out := .next (addWithCarry (.mem (.zpx z)) s)

/-- `6D` ADC absolute (R155). -/
def execAdcAbs (b : Addr) (s : State) : Out := .next (addWithCarry (.mem (.abs b)) s)

/-- `7D` ADC absolute,X (R155). -/
def execAdcAbsx (b : Addr) (s : State) : Out := .next (addWithCarry (.mem (.absx b)) s)

/-- `79` ADC absolute,Y (R155). -/
def execAdcAbsy (b : Addr) (s : State) : Out := .next (addWithCarry (.mem (.absy b)) s)

/-- `61` ADC (zero page,X) (R155). -/
def execAdcIndx (z : Byte) (s : State) : Out := .next (addWithCarry (.mem (.indx z)) s)

/-- `71` ADC (zero page),Y (R155). -/
def execAdcIndy (z : Byte) (s : State) : Out := .next (addWithCarry (.mem (.indy z)) s)

/-- `72` ADC (zero page) (R155). -/
def execAdcZpind (z : Byte) (s : State) : Out := .next (addWithCarry (.mem (.zpind z)) s)

/-- `E9` SBC immediate (R156). -/
def execSbcImm (v : Byte) (s : State) : Out := .next (subWithBorrow (.imm v) s)

/-- `E5` SBC zero page (R156). -/
def execSbcZp (z : Byte) (s : State) : Out := .next (subWithBorrow (.mem (.zp z)) s)

/-- `F5` SBC zero page,X (R156). -/
def execSbcZpx (z : Byte) (s : State) : Out := .next (subWithBorrow (.mem (.zpx z)) s)

/-- `ED` SBC absolute (R156). -/
def execSbcAbs (b : Addr) (s : State) : Out := .next (subWithBorrow (.mem (.abs b)) s)

/-- `FD` SBC absolute,X (R156). -/
def execSbcAbsx (b : Addr) (s : State) : Out := .next (subWithBorrow (.mem (.absx b)) s)

/-- `F9` SBC absolute,Y (R156). -/
def execSbcAbsy (b : Addr) (s : State) : Out := .next (subWithBorrow (.mem (.absy b)) s)

/-- `E1` SBC (zero page,X) (R156). -/
def execSbcIndx (z : Byte) (s : State) : Out := .next (subWithBorrow (.mem (.indx z)) s)

/-- `F1` SBC (zero page),Y (R156). -/
def execSbcIndy (z : Byte) (s : State) : Out := .next (subWithBorrow (.mem (.indy z)) s)

/-- `F2` SBC (zero page) (R156). -/
def execSbcZpind (z : Byte) (s : State) : Out := .next (subWithBorrow (.mem (.zpind z)) s)

/-- `C9` CMP immediate (R157). -/
def execCmpImm (v : Byte) (s : State) : Out := .next (compareA (.imm v) s)

/-- `C5` CMP zero page (R157). -/
def execCmpZp (z : Byte) (s : State) : Out := .next (compareA (.mem (.zp z)) s)

/-- `D5` CMP zero page,X (R157). -/
def execCmpZpx (z : Byte) (s : State) : Out := .next (compareA (.mem (.zpx z)) s)

/-- `CD` CMP absolute (R157). -/
def execCmpAbs (b : Addr) (s : State) : Out := .next (compareA (.mem (.abs b)) s)

/-- `DD` CMP absolute,X (R157). -/
def execCmpAbsx (b : Addr) (s : State) : Out := .next (compareA (.mem (.absx b)) s)

/-- `D9` CMP absolute,Y (R157). -/
def execCmpAbsy (b : Addr) (s : State) : Out := .next (compareA (.mem (.absy b)) s)

/-- `C1` CMP (zero page,X) (R157). -/
def execCmpIndx (z : Byte) (s : State) : Out := .next (compareA (.mem (.indx z)) s)

/-- `D1` CMP (zero page),Y (R157). -/
def execCmpIndy (z : Byte) (s : State) : Out := .next (compareA (.mem (.indy z)) s)

/-- `D2` CMP (zero page) (R157). -/
def execCmpZpind (z : Byte) (s : State) : Out := .next (compareA (.mem (.zpind z)) s)

/-- `E0` CPX immediate (R158). -/
def execCpxImm (v : Byte) (s : State) : Out := .next (compareX (.imm v) s)

/-- `E4` CPX zero page (R158). -/
def execCpxZp (z : Byte) (s : State) : Out := .next (compareX (.mem (.zp z)) s)

/-- `EC` CPX absolute (R158). -/
def execCpxAbs (b : Addr) (s : State) : Out := .next (compareX (.mem (.abs b)) s)

/-- `C0` CPY immediate (R159). -/
def execCpyImm (v : Byte) (s : State) : Out := .next (compareY (.imm v) s)

/-- `C4` CPY zero page (R159). -/
def execCpyZp (z : Byte) (s : State) : Out := .next (compareY (.mem (.zp z)) s)

/-- `CC` CPY absolute (R159). -/
def execCpyAbs (b : Addr) (s : State) : Out := .next (compareY (.mem (.abs b)) s)

/-- `1A` INC accumulator (R160). -/
def execIncAcc (s : State) : Out := .next (rmw .acc incResult s)

/-- `E6` INC zero page (R160). -/
def execIncZp (z : Byte) (s : State) : Out := .next (rmw (.mem (.zp z)) incResult s)

/-- `F6` INC zero page,X (R160). -/
def execIncZpx (z : Byte) (s : State) : Out := .next (rmw (.mem (.zpx z)) incResult s)

/-- `EE` INC absolute (R160). -/
def execIncAbs (b : Addr) (s : State) : Out := .next (rmw (.mem (.abs b)) incResult s)

/-- `FE` INC absolute,X (R160). -/
def execIncAbsx (b : Addr) (s : State) : Out := .next (rmw (.mem (.absx b)) incResult s)

/-- `E8` INX implied (R161). -/
def execInx (s : State) : Out := .next (((s.advance 1).setX (s.x + 1)).setNZ (s.x + 1))

/-- `C8` INY implied (R162). -/
def execIny (s : State) : Out := .next (((s.advance 1).setY (s.y + 1)).setNZ (s.y + 1))

/-- `3A` DEC accumulator (R163). -/
def execDecAcc (s : State) : Out := .next (rmw .acc decResult s)

/-- `C6` DEC zero page (R163). -/
def execDecZp (z : Byte) (s : State) : Out := .next (rmw (.mem (.zp z)) decResult s)

/-- `D6` DEC zero page,X (R163). -/
def execDecZpx (z : Byte) (s : State) : Out := .next (rmw (.mem (.zpx z)) decResult s)

/-- `CE` DEC absolute (R163). -/
def execDecAbs (b : Addr) (s : State) : Out := .next (rmw (.mem (.abs b)) decResult s)

/-- `DE` DEC absolute,X (R163). -/
def execDecAbsx (b : Addr) (s : State) : Out := .next (rmw (.mem (.absx b)) decResult s)

/-- `CA` DEX implied (R164). -/
def execDex (s : State) : Out := .next (((s.advance 1).setX (s.x - 1)).setNZ (s.x - 1))

/-- `88` DEY implied (R165). -/
def execDey (s : State) : Out := .next (((s.advance 1).setY (s.y - 1)).setNZ (s.y - 1))

end Sys2Proof.Machine
end

