-- ==== Sys2Proof/Machine/Branch.lean ====
section
/-! DEFINITION. Branches (45_branch R190 to R199).
One definition per instruction, over the shared operations. -/

namespace Sys2Proof.Machine

/-- `Branch(cond)`: PC past the two bytes, then the signed offset added if the condition holds (45 R190; 30 R86). -/
def branch (cond : Bool) (off : Byte) (s : State) : State :=
  if cond then (s.advance 2).setPc ((s.advance 2).pc + sext off) else s.advance 2

/-- `90` BCC relative (R191). -/
def execBcc (off : Byte) (s : State) : Out := .next (branch (!s.p.c) off s)

/-- `B0` BCS relative (R192). -/
def execBcs (off : Byte) (s : State) : Out := .next (branch s.p.c off s)

/-- `F0` BEQ relative (R193). -/
def execBeq (off : Byte) (s : State) : Out := .next (branch s.p.z off s)

/-- `D0` BNE relative (R194). -/
def execBne (off : Byte) (s : State) : Out := .next (branch (!s.p.z) off s)

/-- `30` BMI relative (R195). -/
def execBmi (off : Byte) (s : State) : Out := .next (branch s.p.n off s)

/-- `10` BPL relative (R196). -/
def execBpl (off : Byte) (s : State) : Out := .next (branch (!s.p.n) off s)

/-- `50` BVC relative (R197). -/
def execBvc (off : Byte) (s : State) : Out := .next (branch (!s.p.v) off s)

/-- `70` BVS relative (R198). -/
def execBvs (off : Byte) (s : State) : Out := .next (branch s.p.v off s)

/-- `80` BRA relative (R199). -/
def execBra (off : Byte) (s : State) : Out := .next (branch true off s)

end Sys2Proof.Machine
end

