-- ==== Sys2Proof/Machine/Jump.lean ====
section
/-! DEFINITION. Jumps, calls and returns (46_jump_call R205 to R208).
One definition per instruction, over the shared operations. -/

namespace Sys2Proof.Machine

/-- JSR: push the address of its third byte, high byte first, then jump (46 R206). -/
def callSubroutine (target : Addr) (s : State) : State :=
  let r := s.pc + 3 - 1
  (((s.advance 3).push (hiByte r)).push (loByte r)).setPc target

/-- RTS after its fetch: pull PCL, then PCH, and add one (46 R207). -/
def returnFromSubroutine (s : State) : State := ((s.pull).pull).setPc (mkAddr (s.pull).pulled s.pulled + 1)

/-- `4C` JMP absolute (R205). -/
def execJmpAbs (b : Addr) (s : State) : Out := .next (s.setPc (effAddr (.abs b) s))

/-- `6C` JMP (absolute) (R205). -/
def execJmpAbsind (b : Addr) (s : State) : Out := .next (s.setPc (effAddr (.absind b) s))

/-- `7C` JMP (absolute,X) (R205). -/
def execJmpAbsxind (b : Addr) (s : State) : Out := .next (s.setPc (effAddr (.absxind b) s))

/-- `20` JSR absolute (R206). -/
def execJsr (b : Addr) (s : State) : Out := .next (callSubroutine b s)

/-- `60` RTS implied (R207). -/
def execRts (s : State) : Out := .next (returnFromSubroutine (s.advance 1))

/-- `40` RTI implied (R208). -/
def execRti (s : State) : Out := .next (returnFromInterrupt (s.advance 1))

end Sys2Proof.Machine
end

