-- ==== Sys2Proof/Machine/LoadStore.lean ====
section
/-! DEFINITION. Loads and stores (41_load_store_transfer R130 to R136).
One definition per instruction, over the shared operations. -/

namespace Sys2Proof.Machine

/-- `A <- Operand(mode); SetNZ(A)` (41 R130). -/
def loadA (src : Source) (s : State) : State := ((s.advance src.length).setA (operand src s)).setNZ (operand src s)

/-- `X <- Operand(mode); SetNZ(X)` (41 R131). -/
def loadX (src : Source) (s : State) : State := ((s.advance src.length).setX (operand src s)).setNZ (operand src s)

/-- `Y <- Operand(mode); SetNZ(Y)` (41 R132). -/
def loadY (src : Source) (s : State) : State := ((s.advance src.length).setY (operand src s)).setNZ (operand src s)

/-- `a <- EA(mode); MemWrite(a, 1, v)`, no flag (41 R133 to R136). -/
def storeByte (m : MemMode) (v : Byte) (s : State) : State := (s.advance m.length).store (effAddr m s) v

/-- `A9` LDA immediate (R130). -/
def execLdaImm (v : Byte) (s : State) : Out := .next (loadA (.imm v) s)

/-- `A5` LDA zero page (R130). -/
def execLdaZp (z : Byte) (s : State) : Out := .next (loadA (.mem (.zp z)) s)

/-- `B5` LDA zero page,X (R130). -/
def execLdaZpx (z : Byte) (s : State) : Out := .next (loadA (.mem (.zpx z)) s)

/-- `AD` LDA absolute (R130). -/
def execLdaAbs (b : Addr) (s : State) : Out := .next (loadA (.mem (.abs b)) s)

/-- `BD` LDA absolute,X (R130). -/
def execLdaAbsx (b : Addr) (s : State) : Out := .next (loadA (.mem (.absx b)) s)

/-- `B9` LDA absolute,Y (R130). -/
def execLdaAbsy (b : Addr) (s : State) : Out := .next (loadA (.mem (.absy b)) s)

/-- `A1` LDA (zero page,X) (R130). -/
def execLdaIndx (z : Byte) (s : State) : Out := .next (loadA (.mem (.indx z)) s)

/-- `B1` LDA (zero page),Y (R130). -/
def execLdaIndy (z : Byte) (s : State) : Out := .next (loadA (.mem (.indy z)) s)

/-- `B2` LDA (zero page) (R130). -/
def execLdaZpind (z : Byte) (s : State) : Out := .next (loadA (.mem (.zpind z)) s)

/-- `A2` LDX immediate (R131). -/
def execLdxImm (v : Byte) (s : State) : Out := .next (loadX (.imm v) s)

/-- `A6` LDX zero page (R131). -/
def execLdxZp (z : Byte) (s : State) : Out := .next (loadX (.mem (.zp z)) s)

/-- `B6` LDX zero page,Y (R131). -/
def execLdxZpy (z : Byte) (s : State) : Out := .next (loadX (.mem (.zpy z)) s)

/-- `AE` LDX absolute (R131). -/
def execLdxAbs (b : Addr) (s : State) : Out := .next (loadX (.mem (.abs b)) s)

/-- `BE` LDX absolute,Y (R131). -/
def execLdxAbsy (b : Addr) (s : State) : Out := .next (loadX (.mem (.absy b)) s)

/-- `A0` LDY immediate (R132). -/
def execLdyImm (v : Byte) (s : State) : Out := .next (loadY (.imm v) s)

/-- `A4` LDY zero page (R132). -/
def execLdyZp (z : Byte) (s : State) : Out := .next (loadY (.mem (.zp z)) s)

/-- `B4` LDY zero page,X (R132). -/
def execLdyZpx (z : Byte) (s : State) : Out := .next (loadY (.mem (.zpx z)) s)

/-- `AC` LDY absolute (R132). -/
def execLdyAbs (b : Addr) (s : State) : Out := .next (loadY (.mem (.abs b)) s)

/-- `BC` LDY absolute,X (R132). -/
def execLdyAbsx (b : Addr) (s : State) : Out := .next (loadY (.mem (.absx b)) s)

/-- `85` STA zero page (R133). -/
def execStaZp (z : Byte) (s : State) : Out := .next (storeByte (.zp z) s.a s)

/-- `95` STA zero page,X (R133). -/
def execStaZpx (z : Byte) (s : State) : Out := .next (storeByte (.zpx z) s.a s)

/-- `8D` STA absolute (R133). -/
def execStaAbs (b : Addr) (s : State) : Out := .next (storeByte (.abs b) s.a s)

/-- `9D` STA absolute,X (R133). -/
def execStaAbsx (b : Addr) (s : State) : Out := .next (storeByte (.absx b) s.a s)

/-- `99` STA absolute,Y (R133). -/
def execStaAbsy (b : Addr) (s : State) : Out := .next (storeByte (.absy b) s.a s)

/-- `81` STA (zero page,X) (R133). -/
def execStaIndx (z : Byte) (s : State) : Out := .next (storeByte (.indx z) s.a s)

/-- `91` STA (zero page),Y (R133). -/
def execStaIndy (z : Byte) (s : State) : Out := .next (storeByte (.indy z) s.a s)

/-- `92` STA (zero page) (R133). -/
def execStaZpind (z : Byte) (s : State) : Out := .next (storeByte (.zpind z) s.a s)

/-- `86` STX zero page (R134). -/
def execStxZp (z : Byte) (s : State) : Out := .next (storeByte (.zp z) s.x s)

/-- `96` STX zero page,Y (R134). -/
def execStxZpy (z : Byte) (s : State) : Out := .next (storeByte (.zpy z) s.x s)

/-- `8E` STX absolute (R134). -/
def execStxAbs (b : Addr) (s : State) : Out := .next (storeByte (.abs b) s.x s)

/-- `84` STY zero page (R135). -/
def execStyZp (z : Byte) (s : State) : Out := .next (storeByte (.zp z) s.y s)

/-- `94` STY zero page,X (R135). -/
def execStyZpx (z : Byte) (s : State) : Out := .next (storeByte (.zpx z) s.y s)

/-- `8C` STY absolute (R135). -/
def execStyAbs (b : Addr) (s : State) : Out := .next (storeByte (.abs b) s.y s)

/-- `64` STZ zero page (R136). -/
def execStzZp (z : Byte) (s : State) : Out := .next (storeByte (.zp z) 0 s)

/-- `74` STZ zero page,X (R136). -/
def execStzZpx (z : Byte) (s : State) : Out := .next (storeByte (.zpx z) 0 s)

/-- `9C` STZ absolute (R136). -/
def execStzAbs (b : Addr) (s : State) : Out := .next (storeByte (.abs b) 0 s)

/-- `9E` STZ absolute,X (R136). -/
def execStzAbsx (b : Addr) (s : State) : Out := .next (storeByte (.absx b) 0 s)

end Sys2Proof.Machine
end

