-- ==== Sys2Proof/Machine/Logic.lean ====
section
/-! DEFINITION. Logic and bit test (43_logic R170 to R175).
One definition per instruction, over the shared operations. -/

namespace Sys2Proof.Machine

/-- AND: `A <- A & Operand(mode); SetNZ(A)` (43 R170). -/
def andA (src : Source) (s : State) : State :=
  ((s.advance src.length).setA (s.a &&& operand src s)).setNZ (s.a &&& operand src s)

/-- ORA: `A <- A | Operand(mode); SetNZ(A)` (43 R171). -/
def orA (src : Source) (s : State) : State :=
  ((s.advance src.length).setA (s.a ||| operand src s)).setNZ (s.a ||| operand src s)

/-- EOR: `A <- A ^ Operand(mode); SetNZ(A)` (43 R172). -/
def eorA (src : Source) (s : State) : State :=
  ((s.advance src.length).setA (s.a ^^^ operand src s)).setNZ (s.a ^^^ operand src s)

/-- BIT immediate: Z only (43 R173). -/
def bitImmediate (v : Byte) (s : State) : State := (s.advance 2).setP { s.p with z := (s.a &&& v) == 0 }

/-- BIT with a memory operand: Z from A and M, N and V from bits 7 and 6 of M (43 R173). -/
def bitMemory (m : MemMode) (s : State) : State :=
  let v := Memory.read s.mem (effAddr m s)
  (s.advance m.length).setP { s.p with z := (s.a &&& v) == 0, n := v.getLsbD 7, v := v.getLsbD 6 }

/-- `29` AND immediate (R170). -/
def execAndImm (v : Byte) (s : State) : Out := .next (andA (.imm v) s)

/-- `25` AND zero page (R170). -/
def execAndZp (z : Byte) (s : State) : Out := .next (andA (.mem (.zp z)) s)

/-- `35` AND zero page,X (R170). -/
def execAndZpx (z : Byte) (s : State) : Out := .next (andA (.mem (.zpx z)) s)

/-- `2D` AND absolute (R170). -/
def execAndAbs (b : Addr) (s : State) : Out := .next (andA (.mem (.abs b)) s)

/-- `3D` AND absolute,X (R170). -/
def execAndAbsx (b : Addr) (s : State) : Out := .next (andA (.mem (.absx b)) s)

/-- `39` AND absolute,Y (R170). -/
def execAndAbsy (b : Addr) (s : State) : Out := .next (andA (.mem (.absy b)) s)

/-- `21` AND (zero page,X) (R170). -/
def execAndIndx (z : Byte) (s : State) : Out := .next (andA (.mem (.indx z)) s)

/-- `31` AND (zero page),Y (R170). -/
def execAndIndy (z : Byte) (s : State) : Out := .next (andA (.mem (.indy z)) s)

/-- `32` AND (zero page) (R170). -/
def execAndZpind (z : Byte) (s : State) : Out := .next (andA (.mem (.zpind z)) s)

/-- `09` ORA immediate (R171). -/
def execOraImm (v : Byte) (s : State) : Out := .next (orA (.imm v) s)

/-- `05` ORA zero page (R171). -/
def execOraZp (z : Byte) (s : State) : Out := .next (orA (.mem (.zp z)) s)

/-- `15` ORA zero page,X (R171). -/
def execOraZpx (z : Byte) (s : State) : Out := .next (orA (.mem (.zpx z)) s)

/-- `0D` ORA absolute (R171). -/
def execOraAbs (b : Addr) (s : State) : Out := .next (orA (.mem (.abs b)) s)

/-- `1D` ORA absolute,X (R171). -/
def execOraAbsx (b : Addr) (s : State) : Out := .next (orA (.mem (.absx b)) s)

/-- `19` ORA absolute,Y (R171). -/
def execOraAbsy (b : Addr) (s : State) : Out := .next (orA (.mem (.absy b)) s)

/-- `01` ORA (zero page,X) (R171). -/
def execOraIndx (z : Byte) (s : State) : Out := .next (orA (.mem (.indx z)) s)

/-- `11` ORA (zero page),Y (R171). -/
def execOraIndy (z : Byte) (s : State) : Out := .next (orA (.mem (.indy z)) s)

/-- `12` ORA (zero page) (R171). -/
def execOraZpind (z : Byte) (s : State) : Out := .next (orA (.mem (.zpind z)) s)

/-- `49` EOR immediate (R172). -/
def execEorImm (v : Byte) (s : State) : Out := .next (eorA (.imm v) s)

/-- `45` EOR zero page (R172). -/
def execEorZp (z : Byte) (s : State) : Out := .next (eorA (.mem (.zp z)) s)

/-- `55` EOR zero page,X (R172). -/
def execEorZpx (z : Byte) (s : State) : Out := .next (eorA (.mem (.zpx z)) s)

/-- `4D` EOR absolute (R172). -/
def execEorAbs (b : Addr) (s : State) : Out := .next (eorA (.mem (.abs b)) s)

/-- `5D` EOR absolute,X (R172). -/
def execEorAbsx (b : Addr) (s : State) : Out := .next (eorA (.mem (.absx b)) s)

/-- `59` EOR absolute,Y (R172). -/
def execEorAbsy (b : Addr) (s : State) : Out := .next (eorA (.mem (.absy b)) s)

/-- `41` EOR (zero page,X) (R172). -/
def execEorIndx (z : Byte) (s : State) : Out := .next (eorA (.mem (.indx z)) s)

/-- `51` EOR (zero page),Y (R172). -/
def execEorIndy (z : Byte) (s : State) : Out := .next (eorA (.mem (.indy z)) s)

/-- `52` EOR (zero page) (R172). -/
def execEorZpind (z : Byte) (s : State) : Out := .next (eorA (.mem (.zpind z)) s)

/-- `89` BIT immediate (R173). -/
def execBitImm (v : Byte) (s : State) : Out := .next (bitImmediate v s)

/-- `24` BIT zero page (R173). -/
def execBitZp (z : Byte) (s : State) : Out := .next (bitMemory (.zp z) s)

/-- `34` BIT zero page,X (R173). -/
def execBitZpx (z : Byte) (s : State) : Out := .next (bitMemory (.zpx z) s)

/-- `2C` BIT absolute (R173). -/
def execBitAbs (b : Addr) (s : State) : Out := .next (bitMemory (.abs b) s)

/-- `3C` BIT absolute,X (R173). -/
def execBitAbsx (b : Addr) (s : State) : Out := .next (bitMemory (.absx b) s)

/-- `14` TRB zero page (R174). -/
def execTrbZp (z : Byte) (s : State) : Out := .next (rmw (.mem (.zp z)) (trbResult s.a) s)

/-- `1C` TRB absolute (R174). -/
def execTrbAbs (b : Addr) (s : State) : Out := .next (rmw (.mem (.abs b)) (trbResult s.a) s)

/-- `04` TSB zero page (R175). -/
def execTsbZp (z : Byte) (s : State) : Out := .next (rmw (.mem (.zp z)) (tsbResult s.a) s)

/-- `0C` TSB absolute (R175). -/
def execTsbAbs (b : Addr) (s : State) : Out := .next (rmw (.mem (.abs b)) (tsbResult s.a) s)

end Sys2Proof.Machine
end

