-- ==== Sys2Proof/Machine/Reserved.lean ====
section
/-! DEFINITION. The 76 reserved opcodes, all no-operations (49_system R244 to R250; 30_encoding R88).
One definition per instruction, over the shared operations. -/

namespace Sys2Proof.Machine

/-- A reserved opcode of `n` bytes: its operand bytes are fetched and discarded, nothing but PC changes (30 R88).
DESIGN CHOICE, unsafe: column F (R250) is executed with one byte, the spec's decision D7 (log entry 8). -/
def noOperation (n : Nat) (s : State) : State := s.advance n

/-- `02` reserved 2 bytes (R245). -/
def execRsv02 (_pad : Byte) (s : State) : Out := .next (noOperation 2 s)

/-- `22` reserved 2 bytes (R245). -/
def execRsv22 (_pad : Byte) (s : State) : Out := .next (noOperation 2 s)

/-- `42` reserved 2 bytes (R245). -/
def execRsv42 (_pad : Byte) (s : State) : Out := .next (noOperation 2 s)

/-- `44` reserved 2 bytes (R246). -/
def execRsv44 (_pad : Byte) (s : State) : Out := .next (noOperation 2 s)

/-- `54` reserved 2 bytes (R247). -/
def execRsv54 (_pad : Byte) (s : State) : Out := .next (noOperation 2 s)

/-- `5C` reserved 3 bytes (R248). -/
def execRsv5C (_pad _pad2 : Byte) (s : State) : Out := .next (noOperation 3 s)

/-- `62` reserved 2 bytes (R245). -/
def execRsv62 (_pad : Byte) (s : State) : Out := .next (noOperation 2 s)

/-- `82` reserved 2 bytes (R245). -/
def execRsv82 (_pad : Byte) (s : State) : Out := .next (noOperation 2 s)

/-- `C2` reserved 2 bytes (R245). -/
def execRsvC2 (_pad : Byte) (s : State) : Out := .next (noOperation 2 s)

/-- `D4` reserved 2 bytes (R247). -/
def execRsvD4 (_pad : Byte) (s : State) : Out := .next (noOperation 2 s)

/-- `DC` reserved 3 bytes (R249). -/
def execRsvDC (_pad _pad2 : Byte) (s : State) : Out := .next (noOperation 3 s)

/-- `E2` reserved 2 bytes (R245). -/
def execRsvE2 (_pad : Byte) (s : State) : Out := .next (noOperation 2 s)

/-- `F4` reserved 2 bytes (R247). -/
def execRsvF4 (_pad : Byte) (s : State) : Out := .next (noOperation 2 s)

/-- `FC` reserved 3 bytes (R249). -/
def execRsvFC (_pad _pad2 : Byte) (s : State) : Out := .next (noOperation 3 s)

/-- `03` reserved 1 byte (R244). -/
def execRsv03 (s : State) : Out := .next (noOperation 1 s)

/-- `07` reserved 1 byte (R244). -/
def execRsv07 (s : State) : Out := .next (noOperation 1 s)

/-- `0B` reserved 1 byte (R244). -/
def execRsv0B (s : State) : Out := .next (noOperation 1 s)

/-- `0F` reserved 1 byte (R250). -/
def execRsv0F (s : State) : Out := .next (noOperation 1 s)

/-- `13` reserved 1 byte (R244). -/
def execRsv13 (s : State) : Out := .next (noOperation 1 s)

/-- `17` reserved 1 byte (R244). -/
def execRsv17 (s : State) : Out := .next (noOperation 1 s)

/-- `1B` reserved 1 byte (R244). -/
def execRsv1B (s : State) : Out := .next (noOperation 1 s)

/-- `1F` reserved 1 byte (R250). -/
def execRsv1F (s : State) : Out := .next (noOperation 1 s)

/-- `23` reserved 1 byte (R244). -/
def execRsv23 (s : State) : Out := .next (noOperation 1 s)

/-- `27` reserved 1 byte (R244). -/
def execRsv27 (s : State) : Out := .next (noOperation 1 s)

/-- `2B` reserved 1 byte (R244). -/
def execRsv2B (s : State) : Out := .next (noOperation 1 s)

/-- `2F` reserved 1 byte (R250). -/
def execRsv2F (s : State) : Out := .next (noOperation 1 s)

/-- `33` reserved 1 byte (R244). -/
def execRsv33 (s : State) : Out := .next (noOperation 1 s)

/-- `37` reserved 1 byte (R244). -/
def execRsv37 (s : State) : Out := .next (noOperation 1 s)

/-- `3B` reserved 1 byte (R244). -/
def execRsv3B (s : State) : Out := .next (noOperation 1 s)

/-- `3F` reserved 1 byte (R250). -/
def execRsv3F (s : State) : Out := .next (noOperation 1 s)

/-- `43` reserved 1 byte (R244). -/
def execRsv43 (s : State) : Out := .next (noOperation 1 s)

/-- `47` reserved 1 byte (R244). -/
def execRsv47 (s : State) : Out := .next (noOperation 1 s)

/-- `4B` reserved 1 byte (R244). -/
def execRsv4B (s : State) : Out := .next (noOperation 1 s)

/-- `4F` reserved 1 byte (R250). -/
def execRsv4F (s : State) : Out := .next (noOperation 1 s)

/-- `53` reserved 1 byte (R244). -/
def execRsv53 (s : State) : Out := .next (noOperation 1 s)

/-- `57` reserved 1 byte (R244). -/
def execRsv57 (s : State) : Out := .next (noOperation 1 s)

/-- `5B` reserved 1 byte (R244). -/
def execRsv5B (s : State) : Out := .next (noOperation 1 s)

/-- `5F` reserved 1 byte (R250). -/
def execRsv5F (s : State) : Out := .next (noOperation 1 s)

/-- `63` reserved 1 byte (R244). -/
def execRsv63 (s : State) : Out := .next (noOperation 1 s)

/-- `67` reserved 1 byte (R244). -/
def execRsv67 (s : State) : Out := .next (noOperation 1 s)

/-- `6B` reserved 1 byte (R244). -/
def execRsv6B (s : State) : Out := .next (noOperation 1 s)

/-- `6F` reserved 1 byte (R250). -/
def execRsv6F (s : State) : Out := .next (noOperation 1 s)

/-- `73` reserved 1 byte (R244). -/
def execRsv73 (s : State) : Out := .next (noOperation 1 s)

/-- `77` reserved 1 byte (R244). -/
def execRsv77 (s : State) : Out := .next (noOperation 1 s)

/-- `7B` reserved 1 byte (R244). -/
def execRsv7B (s : State) : Out := .next (noOperation 1 s)

/-- `7F` reserved 1 byte (R250). -/
def execRsv7F (s : State) : Out := .next (noOperation 1 s)

/-- `83` reserved 1 byte (R244). -/
def execRsv83 (s : State) : Out := .next (noOperation 1 s)

/-- `87` reserved 1 byte (R244). -/
def execRsv87 (s : State) : Out := .next (noOperation 1 s)

/-- `8B` reserved 1 byte (R244). -/
def execRsv8B (s : State) : Out := .next (noOperation 1 s)

/-- `8F` reserved 1 byte (R250). -/
def execRsv8F (s : State) : Out := .next (noOperation 1 s)

/-- `93` reserved 1 byte (R244). -/
def execRsv93 (s : State) : Out := .next (noOperation 1 s)

/-- `97` reserved 1 byte (R244). -/
def execRsv97 (s : State) : Out := .next (noOperation 1 s)

/-- `9B` reserved 1 byte (R244). -/
def execRsv9B (s : State) : Out := .next (noOperation 1 s)

/-- `9F` reserved 1 byte (R250). -/
def execRsv9F (s : State) : Out := .next (noOperation 1 s)

/-- `A3` reserved 1 byte (R244). -/
def execRsvA3 (s : State) : Out := .next (noOperation 1 s)

/-- `A7` reserved 1 byte (R244). -/
def execRsvA7 (s : State) : Out := .next (noOperation 1 s)

/-- `AB` reserved 1 byte (R244). -/
def execRsvAB (s : State) : Out := .next (noOperation 1 s)

/-- `AF` reserved 1 byte (R250). -/
def execRsvAF (s : State) : Out := .next (noOperation 1 s)

/-- `B3` reserved 1 byte (R244). -/
def execRsvB3 (s : State) : Out := .next (noOperation 1 s)

/-- `B7` reserved 1 byte (R244). -/
def execRsvB7 (s : State) : Out := .next (noOperation 1 s)

/-- `BB` reserved 1 byte (R244). -/
def execRsvBB (s : State) : Out := .next (noOperation 1 s)

/-- `BF` reserved 1 byte (R250). -/
def execRsvBF (s : State) : Out := .next (noOperation 1 s)

/-- `C3` reserved 1 byte (R244). -/
def execRsvC3 (s : State) : Out := .next (noOperation 1 s)

/-- `C7` reserved 1 byte (R244). -/
def execRsvC7 (s : State) : Out := .next (noOperation 1 s)

/-- `CF` reserved 1 byte (R250). -/
def execRsvCF (s : State) : Out := .next (noOperation 1 s)

/-- `D3` reserved 1 byte (R244). -/
def execRsvD3 (s : State) : Out := .next (noOperation 1 s)

/-- `D7` reserved 1 byte (R244). -/
def execRsvD7 (s : State) : Out := .next (noOperation 1 s)

/-- `DF` reserved 1 byte (R250). -/
def execRsvDF (s : State) : Out := .next (noOperation 1 s)

/-- `E3` reserved 1 byte (R244). -/
def execRsvE3 (s : State) : Out := .next (noOperation 1 s)

/-- `E7` reserved 1 byte (R244). -/
def execRsvE7 (s : State) : Out := .next (noOperation 1 s)

/-- `EB` reserved 1 byte (R244). -/
def execRsvEB (s : State) : Out := .next (noOperation 1 s)

/-- `EF` reserved 1 byte (R250). -/
def execRsvEF (s : State) : Out := .next (noOperation 1 s)

/-- `F3` reserved 1 byte (R244). -/
def execRsvF3 (s : State) : Out := .next (noOperation 1 s)

/-- `F7` reserved 1 byte (R244). -/
def execRsvF7 (s : State) : Out := .next (noOperation 1 s)

/-- `FB` reserved 1 byte (R244). -/
def execRsvFB (s : State) : Out := .next (noOperation 1 s)

/-- `FF` reserved 1 byte (R250). -/
def execRsvFF (s : State) : Out := .next (noOperation 1 s)

end Sys2Proof.Machine
end

