-- ==== Sys2Proof/Machine/Shift.lean ====
section
/-! DEFINITION. Shifts and rotates (44_shift_rotate R180 to R184).
One definition per instruction, over the shared operations. -/

namespace Sys2Proof.Machine

/-- `0A` ASL accumulator (R181). -/
def execAslAcc (s : State) : Out := .next (rmw .acc aslResult s)

/-- `06` ASL zero page (R181). -/
def execAslZp (z : Byte) (s : State) : Out := .next (rmw (.mem (.zp z)) aslResult s)

/-- `16` ASL zero page,X (R181). -/
def execAslZpx (z : Byte) (s : State) : Out := .next (rmw (.mem (.zpx z)) aslResult s)

/-- `0E` ASL absolute (R181). -/
def execAslAbs (b : Addr) (s : State) : Out := .next (rmw (.mem (.abs b)) aslResult s)

/-- `1E` ASL absolute,X (R181). -/
def execAslAbsx (b : Addr) (s : State) : Out := .next (rmw (.mem (.absx b)) aslResult s)

/-- `4A` LSR accumulator (R182). -/
def execLsrAcc (s : State) : Out := .next (rmw .acc lsrResult s)

/-- `46` LSR zero page (R182). -/
def execLsrZp (z : Byte) (s : State) : Out := .next (rmw (.mem (.zp z)) lsrResult s)

/-- `56` LSR zero page,X (R182). -/
def execLsrZpx (z : Byte) (s : State) : Out := .next (rmw (.mem (.zpx z)) lsrResult s)

/-- `4E` LSR absolute (R182). -/
def execLsrAbs (b : Addr) (s : State) : Out := .next (rmw (.mem (.abs b)) lsrResult s)

/-- `5E` LSR absolute,X (R182). -/
def execLsrAbsx (b : Addr) (s : State) : Out := .next (rmw (.mem (.absx b)) lsrResult s)

/-- `2A` ROL accumulator (R183). -/
def execRolAcc (s : State) : Out := .next (rmw .acc rolResult s)

/-- `26` ROL zero page (R183). -/
def execRolZp (z : Byte) (s : State) : Out := .next (rmw (.mem (.zp z)) rolResult s)

/-- `36` ROL zero page,X (R183). -/
def execRolZpx (z : Byte) (s : State) : Out := .next (rmw (.mem (.zpx z)) rolResult s)

/-- `2E` ROL absolute (R183). -/
def execRolAbs (b : Addr) (s : State) : Out := .next (rmw (.mem (.abs b)) rolResult s)

/-- `3E` ROL absolute,X (R183). -/
def execRolAbsx (b : Addr) (s : State) : Out := .next (rmw (.mem (.absx b)) rolResult s)

/-- `6A` ROR accumulator (R184). -/
def execRorAcc (s : State) : Out := .next (rmw .acc rorResult s)

/-- `66` ROR zero page (R184). -/
def execRorZp (z : Byte) (s : State) : Out := .next (rmw (.mem (.zp z)) rorResult s)

/-- `76` ROR zero page,X (R184). -/
def execRorZpx (z : Byte) (s : State) : Out := .next (rmw (.mem (.zpx z)) rorResult s)

/-- `6E` ROR absolute (R184). -/
def execRorAbs (b : Addr) (s : State) : Out := .next (rmw (.mem (.abs b)) rorResult s)

/-- `7E` ROR absolute,X (R184). -/
def execRorAbsx (b : Addr) (s : State) : Out := .next (rmw (.mem (.absx b)) rorResult s)

end Sys2Proof.Machine
end

