-- ==== Sys2Proof/Machine/Stack.lean ====
section
/-! DEFINITION. Pushes and pulls (47_stack R215 to R222).
One definition per instruction, over the shared operations. -/

namespace Sys2Proof.Machine

/-- `48` PHA implied (R215). -/
def execPha (s : State) : Out := .next ((s.advance 1).push s.a)

/-- `68` PLA implied (R216). -/
def execPla (s : State) : Out := .next ((((s.advance 1).pull).setA s.pulled).setNZ s.pulled)

/-- `08` PHP implied (R217). -/
def execPhp (s : State) : Out := .next ((s.advance 1).push (s.p.image true))

/-- `28` PLP implied (R218). -/
def execPlp (s : State) : Out := .next (((s.advance 1).pull).setP (loadP s.pulled))

/-- `DA` PHX implied (R219). -/
def execPhx (s : State) : Out := .next ((s.advance 1).push s.x)

/-- `FA` PLX implied (R220). -/
def execPlx (s : State) : Out := .next ((((s.advance 1).pull).setX s.pulled).setNZ s.pulled)

/-- `5A` PHY implied (R221). -/
def execPhy (s : State) : Out := .next ((s.advance 1).push s.y)

/-- `7A` PLY implied (R222). -/
def execPly (s : State) : Out := .next ((((s.advance 1).pull).setY s.pulled).setNZ s.pulled)

end Sys2Proof.Machine
end

