-- ==== Sys2Proof/Machine/StatusFlags.lean ====
section
/-! DEFINITION. Status flag instructions (48_status_flags R230 to R236).
One definition per instruction, over the shared operations. -/

namespace Sys2Proof.Machine

/-- `18` CLC implied (R230). -/
def execClc (s : State) : Out := .next ((s.advance 1).setP { s.p with c := false })

/-- `D8` CLD implied (R231). -/
def execCld (s : State) : Out := .next ((s.advance 1).setP { s.p with d := false })

/-- `58` CLI implied (R232). -/
def execCli (s : State) : Out := .next ((s.advance 1).setP { s.p with i := false })

/-- `B8` CLV implied (R233). -/
def execClv (s : State) : Out := .next ((s.advance 1).setP { s.p with v := false })

/-- `38` SEC implied (R234). -/
def execSec (s : State) : Out := .next ((s.advance 1).setP { s.p with c := true })

/-- `F8` SED implied (R235). -/
def execSed (s : State) : Out := .next ((s.advance 1).setP { s.p with d := true })

/-- `78` SEI implied (R236). -/
def execSei (s : State) : Out := .next ((s.advance 1).setP { s.p with i := true })

end Sys2Proof.Machine
end

