-- ==== Sys2Proof/Machine/System.lean ====
section
/-! DEFINITION. BRK, NOP, WAI and STP (49_system R240 to R243).
One definition per instruction, over the shared operations. -/

namespace Sys2Proof.Machine

/-- `00` BRK with its signature byte (R240). -/
def execBrk (_sig : Byte) (s : State) : Out := .next (interruptSequence irqVector true (s.pc + 2) (s.advance 2))

/-- `EA` NOP implied (R241). -/
def execNop (s : State) : Out := .next (s.advance 1)

/-- `CB` WAI implied (R242). -/
def execWai (s : State) : Out := .next ((s.advance 1).setRun .waiting)

/-- `DB` STP implied (R243). -/
def execStp (s : State) : Out := .next ((s.advance 1).setRun .stopped)

end Sys2Proof.Machine
end

