-- ==== Sys2Proof/Machine/Transfer.lean ====
section
/-! DEFINITION. Register transfers (41_load_store_transfer R137 to R142).
One definition per instruction, over the shared operations. -/

namespace Sys2Proof.Machine

/-- `AA` TAX implied (R137). -/
def execTax (s : State) : Out := .next (((s.advance 1).setX s.a).setNZ s.a)

/-- `A8` TAY implied (R138). -/
def execTay (s : State) : Out := .next (((s.advance 1).setY s.a).setNZ s.a)

/-- `8A` TXA implied (R139). -/
def execTxa (s : State) : Out := .next (((s.advance 1).setA s.x).setNZ s.x)

/-- `98` TYA implied (R140). -/
def execTya (s : State) : Out := .next (((s.advance 1).setA s.y).setNZ s.y)

/-- `BA` TSX implied (R141). -/
def execTsx (s : State) : Out := .next (((s.advance 1).setX s.sp).setNZ s.sp)

/-- `9A` TXS implied (R142). -/
def execTxs (s : State) : Out := .next ((s.advance 1).setSp s.x)

end Sys2Proof.Machine
end

