-- ==== Sys2Proof/Machine/Dispatch.lean ====
section
/-! DEFINITION. The one dispatch: one arm per constructor of Instr, each a direct call of that instruction's meaning. -/

namespace Sys2Proof.Machine

def exec (i : Instr) (s : State) : Host.Outcome State Fault Refusal :=
  match i with
  | .ldaImm v => Sys2Proof.Machine.execLdaImm v s
  | .ldaZp z => Sys2Proof.Machine.execLdaZp z s
  | .ldaZpx z => Sys2Proof.Machine.execLdaZpx z s
  | .ldaAbs b => Sys2Proof.Machine.execLdaAbs b s
  | .ldaAbsx b => Sys2Proof.Machine.execLdaAbsx b s
  | .ldaAbsy b => Sys2Proof.Machine.execLdaAbsy b s
  | .ldaIndx z => Sys2Proof.Machine.execLdaIndx z s
  | .ldaIndy z => Sys2Proof.Machine.execLdaIndy z s
  | .ldaZpind z => Sys2Proof.Machine.execLdaZpind z s
  | .ldxImm v => Sys2Proof.Machine.execLdxImm v s
  | .ldxZp z => Sys2Proof.Machine.execLdxZp z s
  | .ldxZpy z => Sys2Proof.Machine.execLdxZpy z s
  | .ldxAbs b => Sys2Proof.Machine.execLdxAbs b s
  | .ldxAbsy b => Sys2Proof.Machine.execLdxAbsy b s
  | .ldyImm v => Sys2Proof.Machine.execLdyImm v s
  | .ldyZp z => Sys2Proof.Machine.execLdyZp z s
  | .ldyZpx z => Sys2Proof.Machine.execLdyZpx z s
  | .ldyAbs b => Sys2Proof.Machine.execLdyAbs b s
  | .ldyAbsx b => Sys2Proof.Machine.execLdyAbsx b s
  | .staZp z => Sys2Proof.Machine.execStaZp z s
  | .staZpx z => Sys2Proof.Machine.execStaZpx z s
  | .staAbs b => Sys2Proof.Machine.execStaAbs b s
  | .staAbsx b => Sys2Proof.Machine.execStaAbsx b s
  | .staAbsy b => Sys2Proof.Machine.execStaAbsy b s
  | .staIndx z => Sys2Proof.Machine.execStaIndx z s
  | .staIndy z => Sys2Proof.Machine.execStaIndy z s
  | .staZpind z => Sys2Proof.Machine.execStaZpind z s
  | .stxZp z => Sys2Proof.Machine.execStxZp z s
  | .stxZpy z => Sys2Proof.Machine.execStxZpy z s
  | .stxAbs b => Sys2Proof.Machine.execStxAbs b s
  | .styZp z => Sys2Proof.Machine.execStyZp z s
  | .styZpx z => Sys2Proof.Machine.execStyZpx z s
  | .styAbs b => Sys2Proof.Machine.execStyAbs b s
  | .stzZp z => Sys2Proof.Machine.execStzZp z s
  | .stzZpx z => Sys2Proof.Machine.execStzZpx z s
  | .stzAbs b => Sys2Proof.Machine.execStzAbs b s
  | .stzAbsx b => Sys2Proof.Machine.execStzAbsx b s
  | .tax => Sys2Proof.Machine.execTax s
  | .tay => Sys2Proof.Machine.execTay s
  | .txa => Sys2Proof.Machine.execTxa s
  | .tya => Sys2Proof.Machine.execTya s
  | .tsx => Sys2Proof.Machine.execTsx s
  | .txs => Sys2Proof.Machine.execTxs s
  | .adcImm v => Sys2Proof.Machine.execAdcImm v s
  | .adcZp z => Sys2Proof.Machine.execAdcZp z s
  | .adcZpx z => Sys2Proof.Machine.execAdcZpx z s
  | .adcAbs b => Sys2Proof.Machine.execAdcAbs b s
  | .adcAbsx b => Sys2Proof.Machine.execAdcAbsx b s
  | .adcAbsy b => Sys2Proof.Machine.execAdcAbsy b s
  | .adcIndx z => Sys2Proof.Machine.execAdcIndx z s
  | .adcIndy z => Sys2Proof.Machine.execAdcIndy z s
  | .adcZpind z => Sys2Proof.Machine.execAdcZpind z s
  | .sbcImm v => Sys2Proof.Machine.execSbcImm v s
  | .sbcZp z => Sys2Proof.Machine.execSbcZp z s
  | .sbcZpx z => Sys2Proof.Machine.execSbcZpx z s
  | .sbcAbs b => Sys2Proof.Machine.execSbcAbs b s
  | .sbcAbsx b => Sys2Proof.Machine.execSbcAbsx b s
  | .sbcAbsy b => Sys2Proof.Machine.execSbcAbsy b s
  | .sbcIndx z => Sys2Proof.Machine.execSbcIndx z s
  | .sbcIndy z => Sys2Proof.Machine.execSbcIndy z s
  | .sbcZpind z => Sys2Proof.Machine.execSbcZpind z s
  | .cmpImm v => Sys2Proof.Machine.execCmpImm v s
  | .cmpZp z => Sys2Proof.Machine.execCmpZp z s
  | .cmpZpx z => Sys2Proof.Machine.execCmpZpx z s
  | .cmpAbs b => Sys2Proof.Machine.execCmpAbs b s
  | .cmpAbsx b => Sys2Proof.Machine.execCmpAbsx b s
  | .cmpAbsy b => Sys2Proof.Machine.execCmpAbsy b s
  | .cmpIndx z => Sys2Proof.Machine.execCmpIndx z s
  | .cmpIndy z => Sys2Proof.Machine.execCmpIndy z s
  | .cmpZpind z => Sys2Proof.Machine.execCmpZpind z s
  | .cpxImm v => Sys2Proof.Machine.execCpxImm v s
  | .cpxZp z => Sys2Proof.Machine.execCpxZp z s
  | .cpxAbs b => Sys2Proof.Machine.execCpxAbs b s
  | .cpyImm v => Sys2Proof.Machine.execCpyImm v s
  | .cpyZp z => Sys2Proof.Machine.execCpyZp z s
  | .cpyAbs b => Sys2Proof.Machine.execCpyAbs b s
  | .incAcc => Sys2Proof.Machine.execIncAcc s
  | .incZp z => Sys2Proof.Machine.execIncZp z s
  | .incZpx z => Sys2Proof.Machine.execIncZpx z s
  | .incAbs b => Sys2Proof.Machine.execIncAbs b s
  | .incAbsx b => Sys2Proof.Machine.execIncAbsx b s
  | .inx => Sys2Proof.Machine.execInx s
  | .iny => Sys2Proof.Machine.execIny s
  | .decAcc => Sys2Proof.Machine.execDecAcc s
  | .decZp z => Sys2Proof.Machine.execDecZp z s
  | .decZpx z => Sys2Proof.Machine.execDecZpx z s
  | .decAbs b => Sys2Proof.Machine.execDecAbs b s
  | .decAbsx b => Sys2Proof.Machine.execDecAbsx b s
  | .dex => Sys2Proof.Machine.execDex s
  | .dey => Sys2Proof.Machine.execDey s
  | .andImm v => Sys2Proof.Machine.execAndImm v s
  | .andZp z => Sys2Proof.Machine.execAndZp z s
  | .andZpx z => Sys2Proof.Machine.execAndZpx z s
  | .andAbs b => Sys2Proof.Machine.execAndAbs b s
  | .andAbsx b => Sys2Proof.Machine.execAndAbsx b s
  | .andAbsy b => Sys2Proof.Machine.execAndAbsy b s
  | .andIndx z => Sys2Proof.Machine.execAndIndx z s
  | .andIndy z => Sys2Proof.Machine.execAndIndy z s
  | .andZpind z => Sys2Proof.Machine.execAndZpind z s
  | .oraImm v => Sys2Proof.Machine.execOraImm v s
  | .oraZp z => Sys2Proof.Machine.execOraZp z s
  | .oraZpx z => Sys2Proof.Machine.execOraZpx z s
  | .oraAbs b => Sys2Proof.Machine.execOraAbs b s
  | .oraAbsx b => Sys2Proof.Machine.execOraAbsx b s
  | .oraAbsy b => Sys2Proof.Machine.execOraAbsy b s
  | .oraIndx z => Sys2Proof.Machine.execOraIndx z s
  | .oraIndy z => Sys2Proof.Machine.execOraIndy z s
  | .oraZpind z => Sys2Proof.Machine.execOraZpind z s
  | .eorImm v => Sys2Proof.Machine.execEorImm v s
  | .eorZp z => Sys2Proof.Machine.execEorZp z s
  | .eorZpx z => Sys2Proof.Machine.execEorZpx z s
  | .eorAbs b => Sys2Proof.Machine.execEorAbs b s
  | .eorAbsx b => Sys2Proof.Machine.execEorAbsx b s
  | .eorAbsy b => Sys2Proof.Machine.execEorAbsy b s
  | .eorIndx z => Sys2Proof.Machine.execEorIndx z s
  | .eorIndy z => Sys2Proof.Machine.execEorIndy z s
  | .eorZpind z => Sys2Proof.Machine.execEorZpind z s
  | .bitImm v => Sys2Proof.Machine.execBitImm v s
  | .bitZp z => Sys2Proof.Machine.execBitZp z s
  | .bitZpx z => Sys2Proof.Machine.execBitZpx z s
  | .bitAbs b => Sys2Proof.Machine.execBitAbs b s
  | .bitAbsx b => Sys2Proof.Machine.execBitAbsx b s
  | .trbZp z => Sys2Proof.Machine.execTrbZp z s
  | .trbAbs b => Sys2Proof.Machine.execTrbAbs b s
  | .tsbZp z => Sys2Proof.Machine.execTsbZp z s
  | .tsbAbs b => Sys2Proof.Machine.execTsbAbs b s
  | .aslAcc => Sys2Proof.Machine.execAslAcc s
  | .aslZp z => Sys2Proof.Machine.execAslZp z s
  | .aslZpx z => Sys2Proof.Machine.execAslZpx z s
  | .aslAbs b => Sys2Proof.Machine.execAslAbs b s
  | .aslAbsx b => Sys2Proof.Machine.execAslAbsx b s
  | .lsrAcc => Sys2Proof.Machine.execLsrAcc s
  | .lsrZp z => Sys2Proof.Machine.execLsrZp z s
  | .lsrZpx z => Sys2Proof.Machine.execLsrZpx z s
  | .lsrAbs b => Sys2Proof.Machine.execLsrAbs b s
  | .lsrAbsx b => Sys2Proof.Machine.execLsrAbsx b s
  | .rolAcc => Sys2Proof.Machine.execRolAcc s
  | .rolZp z => Sys2Proof.Machine.execRolZp z s
  | .rolZpx z => Sys2Proof.Machine.execRolZpx z s
  | .rolAbs b => Sys2Proof.Machine.execRolAbs b s
  | .rolAbsx b => Sys2Proof.Machine.execRolAbsx b s
  | .rorAcc => Sys2Proof.Machine.execRorAcc s
  | .rorZp z => Sys2Proof.Machine.execRorZp z s
  | .rorZpx z => Sys2Proof.Machine.execRorZpx z s
  | .rorAbs b => Sys2Proof.Machine.execRorAbs b s
  | .rorAbsx b => Sys2Proof.Machine.execRorAbsx b s
  | .bcc off => Sys2Proof.Machine.execBcc off s
  | .bcs off => Sys2Proof.Machine.execBcs off s
  | .beq off => Sys2Proof.Machine.execBeq off s
  | .bne off => Sys2Proof.Machine.execBne off s
  | .bmi off => Sys2Proof.Machine.execBmi off s
  | .bpl off => Sys2Proof.Machine.execBpl off s
  | .bvc off => Sys2Proof.Machine.execBvc off s
  | .bvs off => Sys2Proof.Machine.execBvs off s
  | .bra off => Sys2Proof.Machine.execBra off s
  | .jmpAbs b => Sys2Proof.Machine.execJmpAbs b s
  | .jmpAbsind b => Sys2Proof.Machine.execJmpAbsind b s
  | .jmpAbsxind b => Sys2Proof.Machine.execJmpAbsxind b s
  | .jsr b => Sys2Proof.Machine.execJsr b s
  | .rts => Sys2Proof.Machine.execRts s
  | .rti => Sys2Proof.Machine.execRti s
  | .pha => Sys2Proof.Machine.execPha s
  | .pla => Sys2Proof.Machine.execPla s
  | .php => Sys2Proof.Machine.execPhp s
  | .plp => Sys2Proof.Machine.execPlp s
  | .phx => Sys2Proof.Machine.execPhx s
  | .plx => Sys2Proof.Machine.execPlx s
  | .phy => Sys2Proof.Machine.execPhy s
  | .ply => Sys2Proof.Machine.execPly s
  | .clc => Sys2Proof.Machine.execClc s
  | .cld => Sys2Proof.Machine.execCld s
  | .cli => Sys2Proof.Machine.execCli s
  | .clv => Sys2Proof.Machine.execClv s
  | .sec => Sys2Proof.Machine.execSec s
  | .sed => Sys2Proof.Machine.execSed s
  | .sei => Sys2Proof.Machine.execSei s
  | .brk sig => Sys2Proof.Machine.execBrk sig s
  | .nop => Sys2Proof.Machine.execNop s
  | .wai => Sys2Proof.Machine.execWai s
  | .stp => Sys2Proof.Machine.execStp s
  | .rsv02 pad => Sys2Proof.Machine.execRsv02 pad s
  | .rsv22 pad => Sys2Proof.Machine.execRsv22 pad s
  | .rsv42 pad => Sys2Proof.Machine.execRsv42 pad s
  | .rsv44 pad => Sys2Proof.Machine.execRsv44 pad s
  | .rsv54 pad => Sys2Proof.Machine.execRsv54 pad s
  | .rsv5C pad pad2 => Sys2Proof.Machine.execRsv5C pad pad2 s
  | .rsv62 pad => Sys2Proof.Machine.execRsv62 pad s
  | .rsv82 pad => Sys2Proof.Machine.execRsv82 pad s
  | .rsvC2 pad => Sys2Proof.Machine.execRsvC2 pad s
  | .rsvD4 pad => Sys2Proof.Machine.execRsvD4 pad s
  | .rsvDC pad pad2 => Sys2Proof.Machine.execRsvDC pad pad2 s
  | .rsvE2 pad => Sys2Proof.Machine.execRsvE2 pad s
  | .rsvF4 pad => Sys2Proof.Machine.execRsvF4 pad s
  | .rsvFC pad pad2 => Sys2Proof.Machine.execRsvFC pad pad2 s
  | .rsv03 => Sys2Proof.Machine.execRsv03 s
  | .rsv07 => Sys2Proof.Machine.execRsv07 s
  | .rsv0B => Sys2Proof.Machine.execRsv0B s
  | .rsv0F => Sys2Proof.Machine.execRsv0F s
  | .rsv13 => Sys2Proof.Machine.execRsv13 s
  | .rsv17 => Sys2Proof.Machine.execRsv17 s
  | .rsv1B => Sys2Proof.Machine.execRsv1B s
  | .rsv1F => Sys2Proof.Machine.execRsv1F s
  | .rsv23 => Sys2Proof.Machine.execRsv23 s
  | .rsv27 => Sys2Proof.Machine.execRsv27 s
  | .rsv2B => Sys2Proof.Machine.execRsv2B s
  | .rsv2F => Sys2Proof.Machine.execRsv2F s
  | .rsv33 => Sys2Proof.Machine.execRsv33 s
  | .rsv37 => Sys2Proof.Machine.execRsv37 s
  | .rsv3B => Sys2Proof.Machine.execRsv3B s
  | .rsv3F => Sys2Proof.Machine.execRsv3F s
  | .rsv43 => Sys2Proof.Machine.execRsv43 s
  | .rsv47 => Sys2Proof.Machine.execRsv47 s
  | .rsv4B => Sys2Proof.Machine.execRsv4B s
  | .rsv4F => Sys2Proof.Machine.execRsv4F s
  | .rsv53 => Sys2Proof.Machine.execRsv53 s
  | .rsv57 => Sys2Proof.Machine.execRsv57 s
  | .rsv5B => Sys2Proof.Machine.execRsv5B s
  | .rsv5F => Sys2Proof.Machine.execRsv5F s
  | .rsv63 => Sys2Proof.Machine.execRsv63 s
  | .rsv67 => Sys2Proof.Machine.execRsv67 s
  | .rsv6B => Sys2Proof.Machine.execRsv6B s
  | .rsv6F => Sys2Proof.Machine.execRsv6F s
  | .rsv73 => Sys2Proof.Machine.execRsv73 s
  | .rsv77 => Sys2Proof.Machine.execRsv77 s
  | .rsv7B => Sys2Proof.Machine.execRsv7B s
  | .rsv7F => Sys2Proof.Machine.execRsv7F s
  | .rsv83 => Sys2Proof.Machine.execRsv83 s
  | .rsv87 => Sys2Proof.Machine.execRsv87 s
  | .rsv8B => Sys2Proof.Machine.execRsv8B s
  | .rsv8F => Sys2Proof.Machine.execRsv8F s
  | .rsv93 => Sys2Proof.Machine.execRsv93 s
  | .rsv97 => Sys2Proof.Machine.execRsv97 s
  | .rsv9B => Sys2Proof.Machine.execRsv9B s
  | .rsv9F => Sys2Proof.Machine.execRsv9F s
  | .rsvA3 => Sys2Proof.Machine.execRsvA3 s
  | .rsvA7 => Sys2Proof.Machine.execRsvA7 s
  | .rsvAB => Sys2Proof.Machine.execRsvAB s
  | .rsvAF => Sys2Proof.Machine.execRsvAF s
  | .rsvB3 => Sys2Proof.Machine.execRsvB3 s
  | .rsvB7 => Sys2Proof.Machine.execRsvB7 s
  | .rsvBB => Sys2Proof.Machine.execRsvBB s
  | .rsvBF => Sys2Proof.Machine.execRsvBF s
  | .rsvC3 => Sys2Proof.Machine.execRsvC3 s
  | .rsvC7 => Sys2Proof.Machine.execRsvC7 s
  | .rsvCF => Sys2Proof.Machine.execRsvCF s
  | .rsvD3 => Sys2Proof.Machine.execRsvD3 s
  | .rsvD7 => Sys2Proof.Machine.execRsvD7 s
  | .rsvDF => Sys2Proof.Machine.execRsvDF s
  | .rsvE3 => Sys2Proof.Machine.execRsvE3 s
  | .rsvE7 => Sys2Proof.Machine.execRsvE7 s
  | .rsvEB => Sys2Proof.Machine.execRsvEB s
  | .rsvEF => Sys2Proof.Machine.execRsvEF s
  | .rsvF3 => Sys2Proof.Machine.execRsvF3 s
  | .rsvF7 => Sys2Proof.Machine.execRsvF7 s
  | .rsvFB => Sys2Proof.Machine.execRsvFB s
  | .rsvFF => Sys2Proof.Machine.execRsvFF s

end Sys2Proof.Machine
end

