-- ==== Sys2Proof/Machine/Boundary.lean ====
section
/-! DEFINITION. One instruction boundary: the environment's inputs arrive, a reset, an NMI or an IRQ is recognised in that
order, or the next instruction is fetched and executed (30_encoding R80; 60_exceptions R262 to R269). -/

namespace Sys2Proof.Machine

/-- The inputs of the coming boundary: the first sample of ENV, or those of an environment that drives nothing. -/
def State.inputs (s : State) : Inputs := s.env.headD Inputs.idle

/-- The state once the inputs of the boundary have arrived: the sample is used up, other agents' writes are in memory
(20 R72), an SO- edge has set V (10 R39), an NMI- edge is latched (10 R37). While stopped the edges do nothing (60 R269).
DESIGN CHOICE, unsafe: log entry 9. -/
def State.arrive (s : State) : State :=
  let inp := s.inputs
  let t : State := { s with env := s.env.tail, mem := Memory.writeAll s.mem inp.writes }
  if s.run = .stopped then t
  else { t with p := { t.p with v := t.p.v || inp.soEdge }, nmiPending := t.nmiPending || inp.nmiEdge }

/-- The instruction whose bytes stand at PC. A byte beyond the instruction's length is not used (30 R81, R89). -/
def fetchInstr (s : State) : Instr :=
  decodeAt (Memory.read s.mem s.pc) (Memory.read s.mem (s.pc + 1)) (Memory.read s.mem (s.pc + 2))

/-- `StepWaiting()`, once no reset is requested (60_exceptions R268). -/
def waitingStep (inp : Inputs) (s : State) : State :=
  if s.nmiPending then takeNmi s
  else if inp.irqLow then (if s.p.i then s.setRun .running else takeIrq s)
  else s

/-- What happens at a boundary whose inputs have arrived: reset first, then nothing at all while RDY is low, then by run
state NMI, IRQ, or the next instruction (30 R80; 60 R263 to R265, R268, R269, R260). DESIGN CHOICE,
unsafe: what RDY low does together with a reset or an edge (log entry 9). -/
def boundary (inp : Inputs) (s : State) : Out :=
  if inp.reset then .next (resetSequence s)
  else if inp.rdyLow then .next s
  else
    match s.run with
    | .stopped => .next s
    | .waiting => .next (waitingStep inp s)
    | .running =>
      if s.nmiPending then .next (takeNmi s)
      else if inp.irqLow && !s.p.i then .next (takeIrq s)
      else exec (fetchInstr s) s

/-- The state `s` with three bytes stored at PC, PC + 1 and PC + 2, and nothing that would keep the next boundary from
fetching there: running, no NMI pending, an environment that drives nothing. -/
def placeAtPc (s : State) (b0 b1 b2 : Byte) : State :=
  { s with
    mem := Memory.writeAll s.mem [(s.pc, b0), (s.pc + 1, b1), (s.pc + 2, b2)]
    run := .running
    nmiPending := false
    env := [] }

end Sys2Proof.Machine
end

