-- ==== Sys2Proof/Machine/Step.lean ====
section
/-! DEFINITION. One step of the machine: the inputs arrive, then the boundary is decided (30_encoding R80). -/

namespace Sys2Proof.Machine

/-- `Step()`, `StepWaiting()` and `StepStopped()` in one (30 R80; 60 R268, R269). -/
def step (s : State) : Host.Outcome State Fault Refusal := boundary s.inputs s.arrive

/-- `s` with the instruction of the bytes of `w` (bits from `nbits` on being 0) stored where the next step fetches. -/
def State.withFetchWord (s : State) (nbits w : Nat) : State :=
  let v := w % 2 ^ nbits
  placeAtPc s (BitVec.ofNat 8 v) (BitVec.ofNat 8 (v / 256)) (BitVec.ofNat 8 (v / 65536))

end Sys2Proof.Machine
end

