-- ==== Sys2Proof/Machine/Timing.lean ====
section
/-! DEFINITION. Cycle counts, as an annotation outside State and outside the step: no rule's result depends on them
(70_reset_and_hazards R320; 92 D20). The counts are those of 30_encoding R84 and R88. -/

namespace Sys2Proof.Machine

/-- The cycle count of each opcode in opcode order, without the additions that `+`, `*` and decimal mode stand for
(30_encoding R84, R88). The sixteen of column F stand with the opcode fetch alone: their count is not known. -/
def baseCycles : List Nat :=
  [7, 6, 2, 1, 5, 3, 5, 1, 3, 2, 2, 1, 6, 4, 6, 1] ++
  [2, 5, 5, 1, 5, 4, 6, 1, 2, 4, 2, 1, 6, 4, 6, 1] ++
  [6, 6, 2, 1, 3, 3, 5, 1, 4, 2, 2, 1, 4, 4, 6, 1] ++
  [2, 5, 5, 1, 4, 4, 6, 1, 2, 4, 2, 1, 4, 4, 6, 1] ++
  [6, 6, 2, 1, 3, 3, 5, 1, 3, 2, 2, 1, 3, 4, 6, 1] ++
  [2, 5, 5, 1, 4, 4, 6, 1, 2, 4, 3, 1, 8, 4, 6, 1] ++
  [6, 6, 2, 1, 3, 3, 5, 1, 4, 2, 2, 1, 6, 4, 6, 1] ++
  [2, 5, 5, 1, 4, 4, 6, 1, 2, 4, 4, 1, 6, 4, 6, 1] ++
  [3, 6, 2, 1, 3, 3, 3, 1, 2, 2, 2, 1, 4, 4, 4, 1] ++
  [2, 6, 5, 1, 4, 4, 4, 1, 2, 5, 2, 1, 4, 5, 5, 1] ++
  [2, 6, 2, 1, 3, 3, 3, 1, 2, 2, 2, 1, 4, 4, 4, 1] ++
  [2, 5, 5, 1, 4, 4, 4, 1, 2, 4, 2, 1, 4, 4, 4, 1] ++
  [2, 6, 2, 1, 3, 3, 5, 1, 2, 2, 2, 3, 4, 4, 6, 1] ++
  [2, 5, 5, 1, 4, 4, 6, 1, 2, 4, 3, 3, 4, 4, 6, 1] ++
  [2, 6, 2, 1, 3, 3, 5, 1, 2, 2, 2, 1, 4, 4, 6, 1] ++
  [2, 5, 5, 1, 4, 4, 6, 1, 2, 4, 4, 1, 4, 4, 6, 1]

/-- The addressing mode with an effective address of an instruction, with its operand bytes, if it has one (40 R101). -/
def memMode (i : Instr) : Option MemMode :=
  let b1 := (encode i).getD 1 0
  let b2 := (encode i).getD 2 0
  match i.format with
  | .zp => some (.zp b1)
  | .zpx => some (.zpx b1)
  | .zpy => some (.zpy b1)
  | .abs => some (.abs (mkAddr b2 b1))
  | .absx => some (.absx (mkAddr b2 b1))
  | .absy => some (.absy (mkAddr b2 b1))
  | .indx => some (.indx b1)
  | .indy => some (.indy b1)
  | .zpind => some (.zpind b1)
  | .absind => some (.absind (mkAddr b2 b1))
  | .absxind => some (.absxind (mkAddr b2 b1))
  | .imp | .acc | .imm | .rel | .brk | .nop1 | .nop2 | .nop3 => none

/-- The index addition changes the high byte of `base` (40_addressing_modes R118). -/
def pageCrossed (base : Addr) (index : Byte) : Bool := decide (255 < base.toNat % 256 + index.toNat)

/-- Whether an indexed access in this mode crosses a page. It can happen only in `absx`, `absy` and `indy` (40 R118). -/
def MemMode.crosses (m : MemMode) (s : State) : Bool :=
  match m with
  | .absx b => pageCrossed b s.x
  | .absy b => pageCrossed b s.y
  | .indy z => pageCrossed (Memory.read16ZP s.mem z) s.y
  | .zp _ | .zpx _ | .zpy _ | .abs _ | .indx _ | .zpind _ | .absind _ | .absxind _ => false

/-- What an instruction does on the bus, as 70_reset_and_hazards groups them (R312 to R318). -/
inductive BusKind where
  /-- Registers and flags only (R312). -/
  | implied
  /-- Reads one operand byte (R313). -/
  | load
  /-- Writes one operand byte (R313). -/
  | store
  /-- Reads and writes one byte, or works on A (R314, R312). -/
  | modify
  /-- R315. -/
  | branch
  /-- R316. -/
  | jump
  /-- R316. -/
  | call
  /-- R316. -/
  | subReturn
  /-- R316. -/
  | intReturn
  /-- R318. -/
  | push
  /-- R318. -/
  | pull
  /-- R317. -/
  | brk
  /-- R312. -/
  | wait
  /-- R312. -/
  | stop
  /-- 30_encoding R88. -/
  | reserved
deriving DecidableEq, Repr

/-- The bus group of a mnemonic (70 R312 to R318). -/
def busKind : Op → BusKind
  | .lda | .ldx | .ldy | .adc | .sbc | .cmp | .cpx | .cpy | .and | .ora | .eor | .bit => .load
  | .sta | .stx | .sty | .stz => .store
  | .asl | .lsr | .rol | .ror | .inc | .dec | .trb | .tsb => .modify
  | .tax | .tay | .txa | .tya | .tsx | .txs | .inx | .iny | .dex | .dey | .clc | .cld | .cli | .clv | .sec | .sed
  | .sei | .nop => .implied
  | .bcc | .bcs | .beq | .bne | .bmi | .bpl | .bvc | .bvs | .bra => .branch
  | .jmp => .jump
  | .jsr => .call
  | .rts => .subReturn
  | .rti => .intReturn
  | .pha | .php | .phx | .phy => .push
  | .pla | .plp | .plx | .ply => .pull
  | .brk => .brk
  | .wai => .wait
  | .stp => .stop
  | .reserved => .reserved

/-- Whether a branch is taken with these flags (45 R191 to R199). False for every other mnemonic. -/
def branchTaken (o : Op) (p : Status) : Bool :=
  match o with
  | .bcc => !p.c
  | .bcs => p.c
  | .beq => p.z
  | .bne => !p.z
  | .bmi => p.n
  | .bpl => !p.n
  | .bvc => !p.v
  | .bvs => p.v
  | .bra => true
  | _ => false

/-- The target of a branch is in another page than the next instruction (45 R190, 93 G7). -/
def branchCrosses (i : Instr) (s : State) : Bool :=
  hiByte (s.pc + 2 + sext ((encode i).getD 1 0)) != hiByte (s.pc + 2)

/-- ADC and SBC take one more cycle in decimal mode (42 R155, R156). -/
def decimalCycle (i : Instr) (s : State) : Bool := (i.op == .adc || i.op == .sbc) && s.p.d

/-- The cycles beyond the base count: a page crossing of a reading or read-modify-write instruction (40 R118, 44 R180),
decimal mode, a branch taken and taken across a page (45 R190; BRA's base count holds the first), and the unknown ones of
column F (30 R88). -/
def extraCycles (i : Instr) (s : State) : Nat :=
  match busKind i.op with
  | .load => (match memMode i with
      | some m => (m.crosses s).toNat
      | none => 0) + (decimalCycle i s).toNat
  | .modify => match memMode i with
      | some m => (m.crosses s).toNat
      | none => 0
  | .branch => if branchTaken i.op s.p then (i.op != .bra).toNat + (branchCrosses i s).toNat else 0
  | .reserved =>
    let op := (encode i).getD 0 0
    if op.toNat % 16 = 15 then Config.columnFExtraCycles op else 0
  | .implied | .store | .jump | .call | .subReturn | .intReturn | .push | .pull | .brk | .wait | .stop => 0

/-- The number of clock cycles of an instruction executed in the state `s` (70 R320). For WAI without the wait. -/
def cycleCount (i : Instr) (s : State) : Nat :=
  baseCycles.getD ((encode i).getD 0 0).toNat 0 + extraCycles i s

/-- The cycles of an interrupt or reset sequence (60 R261; 70 R317, R320). -/
def interruptCycles : Nat := 7

/-- How long `n` cycles take on a board, in microseconds, while RDY is high (70 R321). -/
def Board.microseconds (b : Board) (n : Nat) : ℚ := n / b.clock.mhz

/-- How long an instruction takes, in microseconds, while RDY is high (70 R320, R321). -/
def instructionMicroseconds (i : Instr) (s : State) : ℚ := s.board.microseconds (cycleCount i s)

end Sys2Proof.Machine
end

