-- ==== Sys2Proof/Machine/Bus.lean ====
section
/-! DEFINITION. The bus cycles of every instruction and interrupt sequence, cycle by cycle, with the outputs SYNC, R/W-,
ML- and VP- (70_reset_and_hazards R312 to R318). An annotation: no result of a step depends on it (20 R71; 92 D12). Where the
spec gives no address, or no place, for a cycle, log entry 10 (DESIGN CHOICE) says what stands here. -/

namespace Sys2Proof.Machine

/-- One clock cycle on the pins. -/
structure BusCycle where
  /-- A0 to A15. -/
  addr : Addr
  /-- The byte written, with R/W- low; none for a read. -/
  wrote : Option Byte
  /-- An internal operation: a read whose byte is not used. -/
  io : Bool
  /-- SYNC is high: this cycle fetches an opcode (30 R80). -/
  sync : Bool
  /-- Memory Lock is asserted (20 R68, 44 R180). `mlPin` is the pin. -/
  mlLow : Bool
  /-- Vector Pull is asserted (60 R270). `vpPin` is the pin. -/
  vpLow : Bool
  /-- The processor itself drives RDY low: WAI's third cycle (49 R242). -/
  rdyDriven : Bool
deriving DecidableEq, Repr

/-- The fetch of an opcode. -/
def opcodeCycle (a : Addr) : BusCycle := ⟨a, none, false, true, false, false, false⟩
/-- A read. -/
def readCycle (a : Addr) : BusCycle := ⟨a, none, false, false, false, false, false⟩
/-- A read whose byte is not used. -/
def ioCycle (a : Addr) : BusCycle := ⟨a, none, true, false, false, false, false⟩
/-- A write. -/
def writeCycle (a : Addr) (v : Byte) : BusCycle := ⟨a, some v, false, false, false, false, false⟩
/-- A read of a vector byte, with VP- low (60 R270). -/
def vectorCycle (a : Addr) : BusCycle := ⟨a, none, false, false, false, true, false⟩
/-- The same cycle with ML- low (44 R180; 90 C12). -/
def BusCycle.locked (c : BusCycle) : BusCycle := { c with mlLow := true }

/-- The level of the ML- pin in a cycle (true is high). The 40-pin package has no such pin (00_scope R5, 20 R68). -/
def BusCycle.mlPin (p : Package) (c : BusCycle) : Option Bool :=
  match p with
  | .pdip40 => none
  | .plcc44 => some !c.mlLow

/-- The level of the VP- pin in a cycle (true is high). The 40-pin package has no such pin (00_scope R5, 60 R270). -/
def BusCycle.vpPin (p : Package) (c : BusCycle) : Option Bool :=
  match p with
  | .pdip40 => none
  | .plcc44 => some !c.vpLow

/-- The address of the last byte of an instruction in this mode (40 R118). -/
def lastByteAddr (m : MemMode) (s : State) : Addr := s.pc + BitVec.ofNat 16 (m.length - 1)

/-- The extra cycle of an indexed access, where there is one: on a page crossing, and in a store always (40 R118; 70 R313;
90 C8; 93 U9). -/
def indexCycle (op : Byte) (isStore : Bool) (m : MemMode) (s : State) : List BusCycle :=
  if m.crosses s then [ioCycle (lastByteAddr m s)]
  else if isStore then
    [ioCycle (if Config.uncrossedStoreReadsEa op (effAddr m s) then effAddr m s else lastByteAddr m s)]
  else []

/-- The cycles after the opcode fetch and before the data access: operand bytes, pointer bytes and internal operations
(70 R313, R314, R316). -/
def addressCycles (op : Byte) (isStore : Bool) (m : MemMode) (s : State) : List BusCycle :=
  match m with
  | .zp _ => [readCycle (s.pc + 1)]
  | .zpx _ | .zpy _ => [readCycle (s.pc + 1), ioCycle (s.pc + 1)]
  | .abs _ => [readCycle (s.pc + 1), readCycle (s.pc + 2)]
  | .absx _ | .absy _ => [readCycle (s.pc + 1), readCycle (s.pc + 2)] ++ indexCycle op isStore m s
  | .indx z =>
    [readCycle (s.pc + 1), ioCycle (s.pc + 1), readCycle (zext (z + s.x)), readCycle (zext (z + s.x + 1))]
  | .indy z => [readCycle (s.pc + 1), readCycle (zext z), readCycle (zext (z + 1))] ++ indexCycle op isStore m s
  | .zpind z => [readCycle (s.pc + 1), readCycle (zext z), readCycle (zext (z + 1))]
  | .absind b =>
    [readCycle (s.pc + 1), readCycle (s.pc + 2), ioCycle (Config.unstatedReadAddr op 0), readCycle b, readCycle (b + 1)]
  | .absxind b =>
    [readCycle (s.pc + 1), readCycle (s.pc + 2), ioCycle (s.pc + 2), readCycle (b + zext s.x),
     readCycle (b + zext s.x + 1)]

/-- Memory after the instruction on a board that is RAM at every address, so that it holds every byte the instruction writes.
What is really there makes no difference to what the processor puts on the data bus. -/
def writtenMemory (i : Instr) (s : State) : Memory :=
  match exec i { s with board := Board.allRam } with
  | .next t => t.mem
  | .fault _ => s.mem
  | .refused _ => s.mem

/-- The write cycle of the byte the instruction stores at `a` (log entry 10). -/
def storedCycle (i : Instr) (s : State) (a : Addr) : BusCycle := writeCycle a (Memory.read (writtenMemory i s) a)

/-- `n` reads whose addresses no source gives, numbered from `k` (93 U4). -/
def unstatedCycles (op : Byte) : Nat → Nat → List BusCycle
  | _, 0 => []
  | k, n + 1 => ioCycle (Config.unstatedReadAddr op k) :: unstatedCycles op (k + 1) n

/-- The cycles of an instruction after its opcode fetch. -/
def laterCycles (i : Instr) (s : State) : List BusCycle :=
  let op := (encode i).getD 0 0
  let next := s.pc + 1
  match busKind i.op with
  | .implied => [ioCycle next]
  | .load =>
    (match memMode i with
      | some m => addressCycles op false m s ++ [readCycle (effAddr m s)]
      | none => [readCycle next])
    ++ (if decimalCycle i s then unstatedCycles op 0 1 else [])
  | .store => match memMode i with
      | some m => addressCycles op true m s ++ [storedCycle i s (effAddr m s)]
      | none => []
  | .modify => match memMode i with
      | some m => addressCycles op false m s
          ++ [(readCycle (effAddr m s)).locked, (ioCycle (effAddr m s)).locked, (storedCycle i s (effAddr m s)).locked]
      | none => [ioCycle next]
  | .branch => readCycle next :: (if branchTaken i.op s.p then
      ioCycle next :: (if branchCrosses i s then [ioCycle next] else []) else [])
  | .jump => match memMode i with
      | some m => addressCycles op false m s
      | none => []
  | .call => [readCycle next, readCycle (s.pc + 2), ioCycle (s.pc + 2), storedCycle i s (stackAddr s.sp),
      storedCycle i s (stackAddr (s.sp - 1))]
  | .subReturn => [ioCycle next, ioCycle next, readCycle (stackAddr (s.sp + 1)), readCycle (stackAddr (s.sp + 2)),
      ioCycle (mkAddr (s.pull).pulled s.pulled)]
  | .intReturn => [ioCycle next, ioCycle next, readCycle (stackAddr (s.sp + 1)), readCycle (stackAddr (s.sp + 2)),
      readCycle (stackAddr (s.sp + 3))]
  | .push => [ioCycle next, storedCycle i s (stackAddr s.sp)]
  | .pull => [ioCycle next, ioCycle next, readCycle (stackAddr (s.sp + 1))]
  | .brk => [readCycle next, storedCycle i s (stackAddr s.sp), storedCycle i s (stackAddr (s.sp - 1)),
      storedCycle i s (stackAddr (s.sp - 2)), vectorCycle irqVector, vectorCycle (irqVector + 1)]
  | .wait => [ioCycle next, { ioCycle next with rdyDriven := true }]
  | .stop => [ioCycle next, ioCycle next]
  | .reserved =>
    (if 1 < i.length then [readCycle next] else []) ++ (if 2 < i.length then [readCycle (s.pc + 2)] else [])
      ++ unstatedCycles op 0 (cycleCount i s - i.length)

/-- The bus cycles of an instruction executed in the state `s` (70 R312 to R318): SYNC is high in the first only. -/
def busCycles (i : Instr) (s : State) : List BusCycle := opcodeCycle s.pc :: laterCycles i s

/-- The seven cycles of an NMI or IRQ sequence through `vector`, from the state before it (70 R317). DESIGN CHOICE: SYNC is low
in all seven. 30_encoding R80 has it high in an opcode fetch only, the text before 70 R312 in cycle 1 (log entry 14). -/
def hardwareInterruptCycles (vector : Addr) (s : State) : List BusCycle :=
  [ioCycle s.pc, ioCycle s.pc, writeCycle (stackAddr s.sp) (hiByte s.pc), writeCycle (stackAddr (s.sp - 1)) (loByte s.pc),
   writeCycle (stackAddr (s.sp - 2)) (s.p.image false), vectorCycle vector, vectorCycle (vector + 1)]

/-- The seven cycles of the reset sequence: the three stack cycles are reads (60 R266; 70 R317). DESIGN CHOICE: SYNC is low in
all seven, as in the interrupt sequences (log entry 14). -/
def resetCycles (s : State) : List BusCycle :=
  [ioCycle s.pc, ioCycle s.pc, ioCycle (stackAddr s.sp), ioCycle (stackAddr (s.sp - 1)), ioCycle (stackAddr (s.sp - 2)),
   vectorCycle resetVector, vectorCycle (resetVector + 1)]

/-- The bus cycles of one boundary whose inputs have arrived. While RDY is low, waiting or stopped the spec gives no
number of cycles, and none is listed (60 R280; 93 U8). -/
def boundaryCycles (inp : Inputs) (s : State) : List BusCycle :=
  if inp.reset then resetCycles s
  else if inp.rdyLow then []
  else
    match s.run with
    | .stopped => []
    | .waiting =>
      if s.nmiPending then hardwareInterruptCycles nmiVector s
      else if inp.irqLow && !s.p.i then hardwareInterruptCycles irqVector s
      else []
    | .running =>
      if s.nmiPending then hardwareInterruptCycles nmiVector s
      else if inp.irqLow && !s.p.i then hardwareInterruptCycles irqVector s
      else busCycles (fetchInstr s) s

end Sys2Proof.Machine
end

