-- ==== Sys2Proof/Safety.lean ====
section
/-! DEFINITION. What a safe run is, in the terms statements use: a step that goes on, and the invariant of the states a
run goes through. -/

namespace Sys2Proof

open Machine

/-- The outcome is a next state. -/
def GoesOn (o : Out) : Prop := ∃ t, o = .next t

/-- The representation invariant: memory is in its canonical form. Every other field is any value of its type. -/
def Inv (s : State) : Prop := s.mem.wf

/-- The states a run from `s` goes through, whatever number of steps it takes. -/
inductive Reaches (s : State) : State → Prop where
  | here : Reaches s s
  | next {t u : State} : Reaches s t → step t = .next u → Reaches s u

end Sys2Proof
end

