-- ==== Sys2Proof/Certificates/Slice0/Obligations.lean ====
section
/-! DEFINITION. The statements for the provers, and the vocabulary they use. Sums are written in natural numbers and
integers, as the rules write them, and not through the model's own operations. An effect written as `t = { s with … }`
leaves every field that is not named as it was. Where `mem` is not named, every byte of memory reads as before. -/

namespace Sys2Proof.Stmt

open Machine

/-- `exec i s` answers a next state, and that state satisfies `post`. -/
def Runs (i : Instr) (s : State) (post : State → Prop) : Prop := ∃ t, exec i s = .next t ∧ post t

/-- The board has RAM at `a` (00_scope R5; 20 R52, R53). -/
def Ram (s : State) (a : Addr) : Prop := s.board.kindAt a = .ram

/-- Every location that is not RAM reads as before: the model's choice (log entry 7). -/
def OthersKept (s t : State) : Prop := ∀ a : Addr, ¬Ram s a → Memory.read t.mem a = Memory.read s.mem a

/-- Every byte outside the addresses `cells` reads as before. What a device does of its own comes with the inputs of a later
boundary (log entries 4 and 7). -/
def BytesKept (cells : List Addr) (s t : State) : Prop :=
  ∀ a : Addr, a ∉ cells → Memory.read t.mem a = Memory.read s.mem a

/-- PC stands past the bytes of the instruction, modulo 65536 (10 R25; 92 D2). -/
def PcPast (i : Instr) (s t : State) : Prop := t.pc.toNat = (s.pc.toNat + i.length) % 65536

/-- The byte at address `n` modulo 65536. -/
def byteAt (s : State) (n : Nat) : Nat := (Memory.read s.mem (BitVec.ofNat 16 n)).toNat

/-- `MemRead16(n)`: low byte at `n`, high byte at `n + 1` modulo 65536 (20 R55). -/
def wordAt (s : State) (n : Nat) : Nat := byteAt s n + 256 * byteAt s (n + 1)

/-- `MemRead16ZP(z)`: both bytes in page zero (20 R56). -/
def wordAtZp (s : State) (z : Nat) : Nat := byteAt s (z % 256) + 256 * byteAt s ((z + 1) % 256)

/-- `EA(mode)` as the table of 40 R101 writes it. -/
def addressOf (m : MemMode) (s : State) : Nat :=
  match m with
  | .zp z => z.toNat
  | .zpx z => (z.toNat + s.x.toNat) % 256
  | .zpy z => (z.toNat + s.y.toNat) % 256
  | .abs b => b.toNat
  | .absx b => (b.toNat + s.x.toNat) % 65536
  | .absy b => (b.toNat + s.y.toNat) % 65536
  | .indx z => wordAtZp s ((z.toNat + s.x.toNat) % 256)
  | .indy z => (wordAtZp s z.toNat + s.y.toNat) % 65536
  | .zpind z => wordAtZp s z.toNat
  | .absind b => wordAt s b.toNat
  | .absxind b => wordAt s ((b.toNat + s.x.toNat) % 65536)

/-- `Operand(mode)` (40 R102). -/
def operandOf (src : Source) (s : State) : Nat :=
  match src with
  | .imm v => v.toNat
  | .mem m => byteAt s (addressOf m s)

/-- `SetNZ(v)`: N is bit 7 of the result, Z says it is zero (00 R8). -/
def nzOf (p : Status) (v : Nat) : Status := { p with n := decide (128 ≤ v), z := decide (v = 0) }

/-- `signed(v)` (42 R150). -/
def signed (v : Nat) : Int := if v < 128 then (v : Int) else (v : Int) - 256

/-- A signed number that does not fit in 8 bits. -/
def overflows (n : Int) : Bool := decide (n < -128 ∨ 127 < n)

/-- Both 4-bit halves are in 0 to 9 (42 R151). -/
def validBcd (v : Nat) : Prop := v / 16 ≤ 9 ∧ v % 16 ≤ 9

/-- `dec(v)` (42 R151). -/
def dec (v : Nat) : Nat := v / 16 * 10 + v % 16

/-- `bcd(n)` (42 R151). -/
def bcd (n : Nat) : Nat := n / 10 * 16 + n % 10

/-- The number `PImage(b)` (10 R35). -/
def imageOf (p : Status) (b : Bool) : Nat :=
  p.n.toNat * 128 + p.v.toNat * 64 + 32 + b.toNat * 16 + p.d.toNat * 8 + p.i.toNat * 4 + p.z.toNat * 2 + p.c.toNat

/-- The three bytes an interrupt sequence pushes (60 R270). -/
def pushedCells (s : State) : List Addr := [stackAddr s.sp, stackAddr (s.sp - 1), stackAddr (s.sp - 2)]

/-- `t` is the entry into a handler from `s`: PCH, PCL and the image of P are pushed (where the stack is RAM they are there
afterwards), I is set, D is cleared, PC comes from the vector, S is three lower, and nothing else changes (60 R270). -/
def EntersHandler (vector : Addr) (b : Bool) (ret : Addr) (s t : State) : Prop :=
  (Ram s (stackAddr s.sp) → (Memory.read t.mem (stackAddr s.sp)).toNat = ret.toNat / 256) ∧
  (Ram s (stackAddr (s.sp - 1)) → (Memory.read t.mem (stackAddr (s.sp - 1))).toNat = ret.toNat % 256) ∧
  (Ram s (stackAddr (s.sp - 2)) → (Memory.read t.mem (stackAddr (s.sp - 2))).toNat = imageOf s.p b) ∧
  BytesKept (pushedCells s) s t ∧ OthersKept s t ∧
  t.pc.toNat = wordAt s vector.toNat ∧
  t = { s with sp := s.sp - 3, p := { s.p with i := true, d := false }, pc := t.pc, mem := t.mem }

/-- The same state with another level on IRQ- at the coming boundary. -/
def withIrq (s : State) (low : Bool) : State := { s with env := { s.inputs with irqLow := low } :: s.env.tail }

/-- The same state with another D flag. -/
def withD (s : State) (d : Bool) : State := { s with p := { s.p with d := d } }

/-- The forms of LDA (40 R119), each with its operand. -/
def ldaForms (v z : Byte) (b : Addr) : List (Instr × Source) :=
  [(.ldaImm v, .imm v), (.ldaZp z, .mem (.zp z)), (.ldaZpx z, .mem (.zpx z)), (.ldaAbs b, .mem (.abs b)),
   (.ldaAbsx b, .mem (.absx b)), (.ldaAbsy b, .mem (.absy b)), (.ldaIndx z, .mem (.indx z)),
   (.ldaIndy z, .mem (.indy z)), (.ldaZpind z, .mem (.zpind z))]

/-- The forms of LDX (40 R119), each with its operand. -/
def ldxForms (v z : Byte) (b : Addr) : List (Instr × Source) :=
  [(.ldxImm v, .imm v), (.ldxZp z, .mem (.zp z)), (.ldxZpy z, .mem (.zpy z)), (.ldxAbs b, .mem (.abs b)),
   (.ldxAbsy b, .mem (.absy b))]

/-- The forms of LDY (40 R119), each with its operand. -/
def ldyForms (v z : Byte) (b : Addr) : List (Instr × Source) :=
  [(.ldyImm v, .imm v), (.ldyZp z, .mem (.zp z)), (.ldyZpx z, .mem (.zpx z)), (.ldyAbs b, .mem (.abs b)),
   (.ldyAbsx b, .mem (.absx b))]

/-- The forms of ADC (40 R119), each with its operand. -/
def adcForms (v z : Byte) (b : Addr) : List (Instr × Source) :=
  [(.adcImm v, .imm v), (.adcZp z, .mem (.zp z)), (.adcZpx z, .mem (.zpx z)), (.adcAbs b, .mem (.abs b)),
   (.adcAbsx b, .mem (.absx b)), (.adcAbsy b, .mem (.absy b)), (.adcIndx z, .mem (.indx z)),
   (.adcIndy z, .mem (.indy z)), (.adcZpind z, .mem (.zpind z))]

/-- The forms of SBC (40 R119), each with its operand. -/
def sbcForms (v z : Byte) (b : Addr) : List (Instr × Source) :=
  [(.sbcImm v, .imm v), (.sbcZp z, .mem (.zp z)), (.sbcZpx z, .mem (.zpx z)), (.sbcAbs b, .mem (.abs b)),
   (.sbcAbsx b, .mem (.absx b)), (.sbcAbsy b, .mem (.absy b)), (.sbcIndx z, .mem (.indx z)),
   (.sbcIndy z, .mem (.indy z)), (.sbcZpind z, .mem (.zpind z))]

/-- The forms of AND (40 R119), each with its operand. -/
def andForms (v z : Byte) (b : Addr) : List (Instr × Source) :=
  [(.andImm v, .imm v), (.andZp z, .mem (.zp z)), (.andZpx z, .mem (.zpx z)), (.andAbs b, .mem (.abs b)),
   (.andAbsx b, .mem (.absx b)), (.andAbsy b, .mem (.absy b)), (.andIndx z, .mem (.indx z)),
   (.andIndy z, .mem (.indy z)), (.andZpind z, .mem (.zpind z))]

/-- The forms of ORA (40 R119), each with its operand. -/
def oraForms (v z : Byte) (b : Addr) : List (Instr × Source) :=
  [(.oraImm v, .imm v), (.oraZp z, .mem (.zp z)), (.oraZpx z, .mem (.zpx z)), (.oraAbs b, .mem (.abs b)),
   (.oraAbsx b, .mem (.absx b)), (.oraAbsy b, .mem (.absy b)), (.oraIndx z, .mem (.indx z)),
   (.oraIndy z, .mem (.indy z)), (.oraZpind z, .mem (.zpind z))]

/-- The forms of EOR (40 R119), each with its operand. -/
def eorForms (v z : Byte) (b : Addr) : List (Instr × Source) :=
  [(.eorImm v, .imm v), (.eorZp z, .mem (.zp z)), (.eorZpx z, .mem (.zpx z)), (.eorAbs b, .mem (.abs b)),
   (.eorAbsx b, .mem (.absx b)), (.eorAbsy b, .mem (.absy b)), (.eorIndx z, .mem (.indx z)),
   (.eorIndy z, .mem (.indy z)), (.eorZpind z, .mem (.zpind z))]

/-- The forms of CMP, CPX and CPY, each with its operand and the register compared. -/
def compareForms (v z : Byte) (b : Addr) (s : State) : List (Instr × Source × Byte) :=
  [(.cmpImm v, .imm v, s.a), (.cmpZp z, .mem (.zp z), s.a), (.cmpZpx z, .mem (.zpx z), s.a),
   (.cmpAbs b, .mem (.abs b), s.a), (.cmpAbsx b, .mem (.absx b), s.a), (.cmpAbsy b, .mem (.absy b), s.a),
   (.cmpIndx z, .mem (.indx z), s.a), (.cmpIndy z, .mem (.indy z), s.a), (.cmpZpind z, .mem (.zpind z), s.a),
   (.cpxImm v, .imm v, s.x), (.cpxZp z, .mem (.zp z), s.x), (.cpxAbs b, .mem (.abs b), s.x),
   (.cpyImm v, .imm v, s.y), (.cpyZp z, .mem (.zp z), s.y), (.cpyAbs b, .mem (.abs b), s.y)]

/-- The four memory forms of BIT. -/
def bitForms (z : Byte) (b : Addr) : List (Instr × MemMode) :=
  [(.bitZp z, .zp z), (.bitZpx z, .zpx z), (.bitAbs b, .abs b), (.bitAbsx b, .absx b)]

/-- The forms of STA and STZ, each with its mode and the byte it stores. -/
def staStzForms (z : Byte) (b : Addr) (s : State) : List (Instr × MemMode × Byte) :=
  [(.staZp z, .zp z, s.a), (.staZpx z, .zpx z, s.a), (.staAbs b, .abs b, s.a), (.staAbsx b, .absx b, s.a),
   (.staAbsy b, .absy b, s.a), (.staIndx z, .indx z, s.a), (.staIndy z, .indy z, s.a), (.staZpind z, .zpind z, s.a),
   (.stzZp z, .zp z, 0), (.stzZpx z, .zpx z, 0), (.stzAbs b, .abs b, 0), (.stzAbsx b, .absx b, 0)]

/-- The forms of STX and STY: the mode, the byte stored, the bytes of the instruction, the cycles (41 R134, R135). -/
def stxStyForms (z : Byte) (b : Addr) (s : State) : List (Instr × MemMode × Byte × List Byte × Nat) :=
  [(.stxZp z, .zp z, s.x, [0x86, z], 3), (.stxZpy z, .zpy z, s.x, [0x96, z], 4),
   (.stxAbs b, .abs b, s.x, [0x8E, loByte b, hiByte b], 4), (.styZp z, .zp z, s.y, [0x84, z], 3),
   (.styZpx z, .zpx z, s.y, [0x94, z], 4), (.styAbs b, .abs b, s.y, [0x8C, loByte b, hiByte b], 4)]

/-- The forms of TRB and TSB: the mode, the new byte from A and the old one, the bytes of the instruction, the cycles
(43 R174, R175). -/
def trbTsbForms (z : Byte) (b : Addr) : List (Instr × MemMode × (Byte → Byte → Byte) × List Byte × Nat) :=
  [(.trbZp z, .zp z, fun a m => m &&& ~~~a, [0x14, z], 5),
   (.trbAbs b, .abs b, fun a m => m &&& ~~~a, [0x1C, loByte b, hiByte b], 6),
   (.tsbZp z, .zp z, fun a m => m ||| a, [0x04, z], 5),
   (.tsbAbs b, .abs b, fun a m => m ||| a, [0x0C, loByte b, hiByte b], 6)]

/-- The forms of INC and DEC: what they work on, and the new value from the old one (42 R160, R163). -/
def incDecForms (z : Byte) (b : Addr) : List (Instr × Target × (Nat → Nat)) :=
  [(.incAcc, .acc, fun m => (m + 1) % 256), (.incZp z, .mem (.zp z), fun m => (m + 1) % 256),
   (.incZpx z, .mem (.zpx z), fun m => (m + 1) % 256), (.incAbs b, .mem (.abs b), fun m => (m + 1) % 256),
   (.incAbsx b, .mem (.absx b), fun m => (m + 1) % 256), (.decAcc, .acc, fun m => (m + 255) % 256),
   (.decZp z, .mem (.zp z), fun m => (m + 255) % 256), (.decZpx z, .mem (.zpx z), fun m => (m + 255) % 256),
   (.decAbs b, .mem (.abs b), fun m => (m + 255) % 256), (.decAbsx b, .mem (.absx b), fun m => (m + 255) % 256)]

/-- `m * 2 mod 256`: 44 R181. The carry is not used. -/
def aslValue (m _ : Nat) : Nat := m * 2 % 256
/-- `m div 2`: 44 R182. The carry is not used. -/
def lsrValue (m _ : Nat) : Nat := m / 2
/-- `(m * 2 mod 256) | c`: 44 R183. -/
def rolValue (m c : Nat) : Nat := m * 2 % 256 + c
/-- `(m div 2) | (c * 128)`: 44 R184. -/
def rorValue (m c : Nat) : Nat := m / 2 + c * 128
/-- Bit 7 of the old value. -/
def highBit (m : Nat) : Bool := decide (128 ≤ m)
/-- Bit 0 of the old value. -/
def lowBit (m : Nat) : Bool := decide (m % 2 = 1)

/-- The forms of ASL, LSR, ROL and ROR: what they work on, the new value from the old one and the carry, the new
carry from the old value (44 R181 to R184). -/
def shiftForms (z : Byte) (b : Addr) : List (Instr × Target × (Nat → Nat → Nat) × (Nat → Bool)) :=
  [(.aslAcc, .acc, aslValue, highBit), (.aslZp z, .mem (.zp z), aslValue, highBit),
   (.aslZpx z, .mem (.zpx z), aslValue, highBit), (.aslAbs b, .mem (.abs b), aslValue, highBit),
   (.aslAbsx b, .mem (.absx b), aslValue, highBit), (.lsrAcc, .acc, lsrValue, lowBit),
   (.lsrZp z, .mem (.zp z), lsrValue, lowBit), (.lsrZpx z, .mem (.zpx z), lsrValue, lowBit),
   (.lsrAbs b, .mem (.abs b), lsrValue, lowBit), (.lsrAbsx b, .mem (.absx b), lsrValue, lowBit),
   (.rolAcc, .acc, rolValue, highBit), (.rolZp z, .mem (.zp z), rolValue, highBit),
   (.rolZpx z, .mem (.zpx z), rolValue, highBit), (.rolAbs b, .mem (.abs b), rolValue, highBit),
   (.rolAbsx b, .mem (.absx b), rolValue, highBit), (.rorAcc, .acc, rorValue, lowBit),
   (.rorZp z, .mem (.zp z), rorValue, lowBit), (.rorZpx z, .mem (.zpx z), rorValue, lowBit),
   (.rorAbs b, .mem (.abs b), rorValue, lowBit), (.rorAbsx b, .mem (.absx b), rorValue, lowBit)]

/-- The nine branches, each with whether it is taken (45 R191 to R199). -/
def branchForms (off : Byte) (p : Status) : List (Instr × Bool) :=
  [(.bcc off, !p.c), (.bcs off, p.c), (.beq off, p.z), (.bne off, !p.z), (.bmi off, p.n), (.bpl off, !p.n),
   (.bvc off, !p.v), (.bvs off, p.v), (.bra off, true)]

/-- The forms of PcAdvances: stores of X and Y, transfers, index steps, TRB and TSB, pushes, pulls of A, X and Y,
and CLC, CLD, CLV, SEC and SED. -/
def pcForms (z : Byte) (b : Addr) : List Instr :=
  [.stxZp z, .stxZpy z, .stxAbs b, .styZp z, .styZpx z, .styAbs b, .tax, .tay, .txa, .tya, .tsx, .txs, .inx, .iny,
   .dex, .dey, .trbZp z, .trbAbs b, .tsbZp z, .tsbAbs b, .pha, .phx, .phy, .php, .pla, .plx, .ply, .clc, .cld, .clv,
   .sec, .sed]

/-- NOP and the 76 reserved opcodes (49 R241, R244 to R250). -/
def noOperations (pad pad2 : Byte) : List Instr :=
  [.nop, .rsv02 pad, .rsv22 pad, .rsv42 pad, .rsv44 pad, .rsv54 pad, .rsv5C pad pad2, .rsv62 pad, .rsv82 pad,
   .rsvC2 pad, .rsvD4 pad, .rsvDC pad pad2, .rsvE2 pad, .rsvF4 pad, .rsvFC pad pad2, .rsv03, .rsv07, .rsv0B, .rsv0F,
   .rsv13, .rsv17, .rsv1B, .rsv1F, .rsv23, .rsv27, .rsv2B, .rsv2F, .rsv33, .rsv37, .rsv3B, .rsv3F, .rsv43, .rsv47,
   .rsv4B, .rsv4F, .rsv53, .rsv57, .rsv5B, .rsv5F, .rsv63, .rsv67, .rsv6B, .rsv6F, .rsv73, .rsv77, .rsv7B, .rsv7F,
   .rsv83, .rsv87, .rsv8B, .rsv8F, .rsv93, .rsv97, .rsv9B, .rsv9F, .rsvA3, .rsvA7, .rsvAB, .rsvAF, .rsvB3, .rsvB7,
   .rsvBB, .rsvBF, .rsvC3, .rsvC7, .rsvCF, .rsvD3, .rsvD7, .rsvDF, .rsvE3, .rsvE7, .rsvEB, .rsvEF, .rsvF3, .rsvF7,
   .rsvFB, .rsvFF]

end Sys2Proof.Stmt

open Sys2Proof Sys2Proof.Machine Sys2Proof.Stmt

/-- For every instruction with every operand value: what is decoded is what was encoded, and the bytes that follow are left
over. Column F has one byte by the spec's decision D7 (log entry 8). -/
def Obligations.DecodeOfEncodeIsIdentity : Prop :=
  ∀ (i : Instr) (rest : List Byte), decode (encode i ++ rest) = .ok (i, rest)

/-- The other direction: no bit of the bytes read is lost, and no two byte strings share an instruction. -/
def Obligations.EncodeOfDecodeIsIdentity : Prop :=
  ∀ (bytes : List Byte) (i : Instr) (rest : List Byte), decode bytes = .ok (i, rest) → encode i ++ rest = bytes

/-- Every value of the first byte decodes; only missing operand bytes stop the decoder. `opcodeLength` is the rule's
Length(op). Column F has one byte by the spec's decision D7 (log entry 8). -/
def Obligations.DecodeFailsOnlyOnTooFewBytes : Prop :=
  ∀ (op : Byte) (tail : List Byte),
    ((∃ i rest, decode (op :: tail) = .ok (i, rest)) ↔ opcodeLength op ≤ tail.length + 1) ∧
    ∀ i rest, decode (op :: tail) = .ok (i, rest) → i.length = opcodeLength op ∧ rest = tail.drop (opcodeLength op - 1)

/-- A sanity statement on words the spec writes out, one per family. The last is the three-byte reserved opcode of 30 R88
and 49 R249. -/
def Obligations.SpecEncodingsDecode : Prop :=
  decode [0xAD, 0x00, 0x44] = .ok (.ldaAbs 0x4400, []) ∧
  decode [0x8D, 0x00, 0x44] = .ok (.staAbs 0x4400, []) ∧
  decode [0xAA] = .ok (.tax, []) ∧
  decode [0x69, 0x01] = .ok (.adcImm 0x01, []) ∧
  decode [0x29, 0x0F] = .ok (.andImm 0x0F, []) ∧
  decode [0x0A] = .ok (.aslAcc, []) ∧
  decode [0x90, 0x05] = .ok (.bcc 0x05, []) ∧
  decode [0x20, 0x00, 0x44] = .ok (.jsr 0x4400, []) ∧
  decode [0x48] = .ok (.pha, []) ∧
  decode [0x18] = .ok (.clc, []) ∧
  decode [0x00, 0xEA] = .ok (.brk 0xEA, []) ∧
  decode [0xFC, 0x00, 0x44] = .ok (.rsvFC 0x00 0x44, [])

/-- Around `exec` the step adds only the arrival of the boundary's inputs (`State.arrive`), which is the identity when the
environment drives nothing. That RDY is sampled at the boundary is the model's choice (log entries 4 and 9). The addresses
of the bytes after the opcode wrap modulo 65536, the spec's own decision D2 (log entry 11). -/
def Obligations.StepRunsDecodedInstruction : Prop :=
  (∀ (s : State) (i : Instr) (rest : List Byte),
    s.run = .running → s.inputs.reset = false → s.inputs.rdyLow = false → s.arrive.nmiPending = false →
    (s.inputs.irqLow = false ∨ s.arrive.p.i = true) →
    decode [Memory.read s.arrive.mem s.pc, Memory.read s.arrive.mem (s.pc + 1), Memory.read s.arrive.mem (s.pc + 2)]
      = .ok (i, rest) →
    step s = exec i s.arrive) ∧
  (∀ (s : State) (i : Instr) (rest : List Byte),
    s.run = .running → s.env = [] → s.nmiPending = false →
    decode [Memory.read s.mem s.pc, Memory.read s.mem (s.pc + 1), Memory.read s.mem (s.pc + 2)] = .ok (i, rest) →
    step s = exec i s)

/-- The machine has no fault, so nothing stops a run but the run states WAITING and STOPPED, which go on doing nothing. -/
def Obligations.EveryStepGoesOn : Prop :=
  (∀ (i : Instr) (s : State), GoesOn (exec i s)) ∧ ∀ s : State, GoesOn (step s)

/-- The invariant of the model's own representation of the 65,536 bytes: it rests on no rule of the spec, and on log entry 2
for what an unlisted address reads as. -/
def Obligations.StepKeepsMemoryCanonical : Prop :=
  ∀ s t : State, Inv s → step s = .next t → Inv t

/-- The invariant's start. -/
def Obligations.ResetMemoryIsCanonical : Prop :=
  Inv State.reset

/-- What the canonical form is for. -/
def Obligations.CanonicalMemoryIsDetermined : Prop :=
  ∀ m n : Memory, m.wf → n.wf → (∀ a : Addr, Memory.read m a = Memory.read n a) → m = n

/-- I, D, PC, the pending NMI and the run state are the table's: that no NMI is pending is its decision D9 (log entry 11).
That memory lists nothing is no value of the table but the model's choice of MEM0 (log entry 2), and RAM at every address is
the default platform of D1 (log entry 7). The other registers and flags have a value of the model's choice (log entry 1), of
which this says nothing. -/
def Obligations.ResetState : Prop :=
  State.reset.p.i = true ∧ State.reset.p.d = false ∧ State.reset.pc.toNat = wordAt State.reset 0xFFFC ∧
  State.reset.nmiPending = false ∧ State.reset.run = .running ∧ State.reset.mem = [] ∧
  ∀ a : Addr, Ram State.reset a

/-- Edges are delivered at boundaries and do nothing while stopped: the model's choice (log entries 4 and 9). -/
def Obligations.InputsArrive : Prop :=
  ∀ s : State,
    s.arrive = { s with env := s.env.tail, p := { s.p with v := s.arrive.p.v }, nmiPending := s.arrive.nmiPending,
                        mem := s.arrive.mem } ∧
    (s.run ≠ .stopped → s.arrive.p.v = (s.p.v || s.inputs.soEdge) ∧
      s.arrive.nmiPending = (s.nmiPending || s.inputs.nmiEdge)) ∧
    (s.run = .stopped → s.arrive.p.v = s.p.v ∧ s.arrive.nmiPending = s.nmiPending) ∧
    (∀ a : Addr, (∀ w ∈ s.inputs.writes, w.1 ≠ a) → Memory.read s.arrive.mem a = Memory.read s.mem a) ∧
    ∀ (ws rest : List (Addr × Byte)) (a : Addr) (v : Byte), s.inputs.writes = ws ++ (a, v) :: rest → (∀ w ∈ rest, w.1 ≠ a) →
      Memory.read s.arrive.mem a = v

/-- The values the spec leaves unspecified are free values (log entry 3), of which this says nothing. That the pending NMI
is dropped and that reset comes first are the spec's decisions D9 and D8 (log entry 11), that it comes even while RDY is low
is the model's (log entry 9). -/
def Obligations.ResetEvent : Prop :=
  ∀ s : State, s.inputs.reset = true → ∃ t, step s = .next t ∧
    t.p.i = true ∧ t.p.d = false ∧ t.pc.toNat = wordAt s.arrive 0xFFFC ∧ t.nmiPending = false ∧ t.run = .running ∧
    t.mem = s.arrive.mem ∧ t.env = s.env.tail ∧ t.board = s.board

/-- That NMI comes before IRQ and pushes bit 4 as 0 are the spec's decisions D8 and D5 (log entry 11). The bytes pushed are
there afterwards where the stack is RAM; elsewhere nothing changes, the model's choice (log entry 7). -/
def Obligations.NmiTaken : Prop :=
  ∀ s : State, s.inputs.reset = false → s.inputs.rdyLow = false → s.run ≠ .stopped → s.arrive.nmiPending = true →
    ∃ t, step s = .next t ∧
      EntersHandler 0xFFFA false s.pc { s.arrive with nmiPending := false, run := .running } t

/-- The value of I is the one the previous instruction left, the spec's decision D15, and bit 4 is pushed as 0, its D5 (log
entry 11). The bytes pushed are there afterwards where the stack is RAM; elsewhere nothing changes, the model's choice (log
entry 7). -/
def Obligations.IrqTaken : Prop :=
  ∀ s : State, s.inputs.reset = false → s.inputs.rdyLow = false → s.run ≠ .stopped → s.arrive.nmiPending = false →
    s.inputs.irqLow = true → s.p.i = false →
    ∃ t, step s = .next t ∧ EntersHandler 0xFFFE false s.pc { s.arrive with run := .running } t

/-- IRQ- is a level and nothing latches it. -/
def Obligations.MaskedIrqChangesNothing : Prop :=
  ∀ (s : State) (low : Bool), s.run = .running → s.p.i = true → step (withIrq s low) = step s

/-- Memory may be changed by other agents meanwhile. That a masked IRQ ends the wait is the spec's decision D16, that only
reset ends STOPPED its D19 (log entry 11). That edges on SO- and NMI- do nothing and are not latched while stopped is the
model's choice (log entry 9), since 49 R243 leaves it open; so is that RDY low holds the wait (log entry 9). -/
def Obligations.WaitingAndStoppedLast : Prop :=
  (∀ s t : State, s.run = .stopped → (∀ inp ∈ s.env, inp.reset = false) → Reaches s t →
    t = { s with env := t.env, mem := t.mem }) ∧
  (∀ s t : State, s.run = .waiting → s.nmiPending = false →
    (∀ inp ∈ s.env, inp.reset = false ∧ inp.nmiEdge = false ∧ inp.irqLow = false) → Reaches s t →
    t = { s with env := t.env, mem := t.mem, p := { s.p with v := t.p.v } }) ∧
  (∀ s : State, s.run = .waiting → s.inputs.reset = false → s.inputs.rdyLow = false → s.arrive.nmiPending = false →
    s.inputs.irqLow = true → s.p.i = true → step s = .next { s.arrive with run := .running })

/-- RDY is sampled at boundaries only: the model's choice (log entries 4 and 9). -/
def Obligations.RdyLowHalts : Prop :=
  ∀ s : State, s.inputs.reset = false → s.inputs.rdyLow = true → step s = .next s.arrive

/-- Entry, fetch, decode and return together: D, I and PC come back from the stack, and A, X, Y, S are untouched. The stack
should be RAM (70 R303). -/
def Obligations.NmiThenRtiResumes : Prop :=
  ∀ (s : State) (h : Addr), s.run = .running → s.env = [] → s.nmiPending = true → h.toNat = wordAt s 0xFFFA →
    Memory.read s.mem h = 0x40 → h ∉ pushedCells s → (∀ c ∈ pushedCells s, Ram s c) →
    ∃ t u, step s = .next t ∧ t.pc = h ∧ t.p.i = true ∧ t.p.d = false ∧ step t = .next u ∧
      u = { s with nmiPending := false, mem := u.mem } ∧ BytesKept (pushedCells s) s u

/-- For the shared operation that takes an exception, with any vector and any bit 4, and for BRK. The stack should be RAM
(70 R303). The PC clause wraps modulo 65536, the spec's own decision D2 (log entry 11). -/
def Obligations.RtiUndoesInterrupt : Prop :=
  (∀ (s : State) (vector : Addr) (b : Bool), (∀ c ∈ pushedCells s, Ram s c) →
    Runs .rti (interruptSequence vector b s.pc s) fun u =>
      u = { s with mem := (interruptSequence vector b s.pc s).mem }) ∧
  ∀ (s : State) (sig : Byte), (∀ c ∈ pushedCells s, Ram s c) →
    Runs (.brk sig) s fun t => Runs .rti t fun u => u = { s with pc := s.pc + 2, mem := t.mem }

/-- The address pushed is one less than the return address, and RTS adds the one back. The stack should be RAM (70 R303).
The PC clause wraps modulo 65536, the spec's own decision D2 (log entry 11). -/
def Obligations.RtsUndoesJsr : Prop :=
  ∀ (s : State) (b : Addr), Ram s (stackAddr s.sp) → Ram s (stackAddr (s.sp - 1)) →
    Runs (.jsr b) s fun t => Runs .rts t fun u =>
      u = { s with pc := s.pc + 3, mem := t.mem } ∧ BytesKept [stackAddr s.sp, stackAddr (s.sp - 1)] s u

/-- S wraps inside page one in both directions. The stack should be RAM (70 R303). The PC clause wraps modulo 65536, the
spec's own decision D2 (log entry 11). -/
def Obligations.PullUndoesPush : Prop :=
  (∀ s : State, Ram s (stackAddr s.sp) → Runs .pha s fun t => Runs .pla t fun u =>
    u = { s with pc := s.pc + 2, p := nzOf s.p s.a.toNat, mem := t.mem }) ∧
  (∀ s : State, Ram s (stackAddr s.sp) → Runs .phx s fun t => Runs .plx t fun u =>
    u = { s with pc := s.pc + 2, p := nzOf s.p s.x.toNat, mem := t.mem }) ∧
  (∀ s : State, Ram s (stackAddr s.sp) → Runs .phy s fun t => Runs .ply t fun u =>
    u = { s with pc := s.pc + 2, p := nzOf s.p s.y.toNat, mem := t.mem }) ∧
  ∀ s : State, Ram s (stackAddr s.sp) → Runs .php s fun t => Runs .plp t fun u => u = { s with pc := s.pc + 2, mem := t.mem }

/-- LDA #, zp, zp,X, abs, abs,X, abs,Y, (zp,X), (zp),Y, (zp). Addresses wrap as the spec's own decisions D3 and D6 say (log
entry 11). The PC clause wraps modulo 65536, the spec's own decision D2 (log entry 11). -/
def Obligations.LdaResult : Prop :=
  ∀ (s : State) (v z : Byte) (b : Addr), ∀ f ∈ ldaForms v z b, Runs f.1 s fun t =>
    t.a.toNat = operandOf f.2 s ∧ PcPast f.1 s t ∧
    t = { s with a := t.a, p := nzOf s.p (operandOf f.2 s), pc := t.pc }

/-- LDX #, zp, zp,Y, abs, abs,Y and LDY #, zp, zp,X, abs, abs,X. Addresses wrap as the spec's own decisions D3 and D6 say
(log entry 11). The PC clause wraps modulo 65536, the spec's own decision D2 (log entry 11). -/
def Obligations.LdxLdyResult : Prop :=
  (∀ (s : State) (v z : Byte) (b : Addr), ∀ f ∈ ldxForms v z b, Runs f.1 s fun t =>
     t.x.toNat = operandOf f.2 s ∧ PcPast f.1 s t ∧
     t = { s with x := t.x, p := nzOf s.p (operandOf f.2 s), pc := t.pc }) ∧
  ∀ (s : State) (v z : Byte) (b : Addr), ∀ f ∈ ldyForms v z b, Runs f.1 s fun t =>
    t.y.toNat = operandOf f.2 s ∧ PcPast f.1 s t ∧
    t = { s with y := t.y, p := nzOf s.p (operandOf f.2 s), pc := t.pc }

/-- The address is the one `effAddr` computes in the state before; EffectiveAddress says which that is. A byte stored is
there afterwards where the board has RAM. Elsewhere see RegisterAndMemoryWriters (log entry 7). The PC clause wraps modulo
65536, the spec's own decision D2 (log entry 11). -/
def Obligations.StaStzResult : Prop :=
  ∀ (s : State) (z : Byte) (b : Addr), ∀ f ∈ staStzForms z b s, Runs f.1 s fun t =>
    (Ram s (effAddr f.2.1 s) → Memory.read t.mem (effAddr f.2.1 s) = f.2.2) ∧ BytesKept [effAddr f.2.1 s] s t ∧ PcPast f.1 s t ∧
    t = { s with pc := t.pc, mem := t.mem }

/-- R134 and R135. The effective address is the number 40 R101 gives, so zp,Y and zp,X wrap inside page zero. What is
written is read back from RAM (20 R53). -/
def Obligations.StxStyResult : Prop :=
  ∀ (s : State) (z : Byte) (b : Addr), ∀ f ∈ stxStyForms z b s,
    encode f.1 = f.2.2.2.1 ∧ cycleCount f.1 s = f.2.2.2.2 ∧ (effAddr f.2.1 s).toNat = addressOf f.2.1 s ∧
    Runs f.1 s fun t =>
      (Ram s (effAddr f.2.1 s) → Memory.read t.mem (effAddr f.2.1 s) = f.2.2.1) ∧ BytesKept [effAddr f.2.1 s] s t ∧
      t = { s with pc := t.pc, mem := t.mem }

/-- R137 to R142. The source register is unchanged and no byte of memory changes. -/
def Obligations.TransfersResult : Prop :=
  ∀ s : State,
    (encode .tax = [0xAA] ∧ encode .tay = [0xA8] ∧ encode .txa = [0x8A] ∧ encode .tya = [0x98] ∧ encode .tsx = [0xBA] ∧
      encode .txs = [0x9A]) ∧
    (∀ i ∈ ([.tax, .tay, .txa, .tya, .tsx, .txs] : List Instr), cycleCount i s = 2) ∧
    (Runs .tax s fun t => t = { s with x := s.a, p := nzOf s.p s.a.toNat, pc := t.pc }) ∧
    (Runs .tay s fun t => t = { s with y := s.a, p := nzOf s.p s.a.toNat, pc := t.pc }) ∧
    (Runs .txa s fun t => t = { s with a := s.x, p := nzOf s.p s.x.toNat, pc := t.pc }) ∧
    (Runs .tya s fun t => t = { s with a := s.y, p := nzOf s.p s.y.toNat, pc := t.pc }) ∧
    (Runs .tsx s fun t => t = { s with x := s.sp, p := nzOf s.p s.sp.toNat, pc := t.pc }) ∧
    (Runs .txs s fun t => t = { s with sp := s.x, pc := t.pc })

/-- The sums are unbounded, as the rule computes them. Addresses wrap as the spec's own decisions D3 and D6 say (log entry
11). The PC clause wraps modulo 65536, the spec's own decision D2 (log entry 11). -/
def Obligations.AdcBinaryResult : Prop :=
  ∀ (s : State) (v z : Byte) (b : Addr), ∀ f ∈ adcForms v z b, s.p.d = false → Runs f.1 s fun t =>
    let m := operandOf f.2 s
    let sum := s.a.toNat + m + s.p.c.toNat
    t.a.toNat = sum % 256 ∧ PcPast f.1 s t ∧
    t = { s with
      a := t.a
      p := { nzOf s.p (sum % 256) with
        c := decide (255 < sum), v := overflows (signed s.a.toNat + signed m + s.p.c.toNat) }
      pc := t.pc }

/-- Decimal mode on valid BCD is the spec's decision D18 (log entry 11). V is a free value, and the counter `draws` is the
model's own (log entries 3 and 5): of neither does this say anything. Addresses wrap as the spec's own decisions D3 and D6
say (log entry 11). The PC clause wraps modulo 65536, the spec's own decision D2 (log entry 11). -/
def Obligations.AdcDecimalResult : Prop :=
  ∀ (s : State) (v z : Byte) (b : Addr), ∀ f ∈ adcForms v z b, s.p.d = true →
    validBcd s.a.toNat → validBcd (operandOf f.2 s) → Runs f.1 s fun t =>
    let sum := dec s.a.toNat + dec (operandOf f.2 s) + s.p.c.toNat
    t.a.toNat = bcd (sum % 100) ∧ PcPast f.1 s t ∧
    t = { s with
      a := t.a
      p := { nzOf s.p (bcd (sum % 100)) with c := decide (99 < sum), v := t.p.v }
      pc := t.pc
      draws := t.draws }

/-- That the carry out is an inverted borrow is the spec's general knowledge G4 (log entry 11). Addresses wrap as the spec's
own decisions D3 and D6 say (log entry 11). The PC clause wraps modulo 65536, the spec's own decision D2 (log entry 11). -/
def Obligations.SbcBinaryResult : Prop :=
  ∀ (s : State) (v z : Byte) (b : Addr), ∀ f ∈ sbcForms v z b, s.p.d = false → Runs f.1 s fun t =>
    let m := operandOf f.2 s
    let diff : Int := s.a.toNat - m - (1 - s.p.c.toNat)
    (t.a.toNat : Int) = diff % 256 ∧ PcPast f.1 s t ∧
    t = { s with
      a := t.a
      p := { nzOf s.p (diff % 256).toNat with
        c := decide (0 ≤ diff), v := overflows (signed s.a.toNat - signed m - (1 - s.p.c.toNat)) }
      pc := t.pc }

/-- Decimal mode on valid BCD is the spec's decision D18 (log entry 11). V is a free value (log entry 5). Addresses wrap as
the spec's own decisions D3 and D6 say (log entry 11). The PC clause wraps modulo 65536, the spec's own decision D2 (log
entry 11). -/
def Obligations.SbcDecimalResult : Prop :=
  ∀ (s : State) (v z : Byte) (b : Addr), ∀ f ∈ sbcForms v z b, s.p.d = true →
    validBcd s.a.toNat → validBcd (operandOf f.2 s) → Runs f.1 s fun t =>
    let diff : Int := dec s.a.toNat - dec (operandOf f.2 s) - (1 - s.p.c.toNat)
    t.a.toNat = bcd (diff % 100).toNat ∧ PcPast f.1 s t ∧
    t = { s with
      a := t.a
      p := { nzOf s.p (bcd (diff % 100).toNat) with c := decide (0 ≤ diff), v := t.p.v }
      pc := t.pc
      draws := t.draws }

/-- The spec leaves the result unspecified and offers refusing or drawing it: the model draws (log entry 6). The PC clause
wraps modulo 65536, the spec's own decision D2 (log entry 11). -/
def Obligations.InvalidDecimalCompletes : Prop :=
  ∀ (s : State) (v z : Byte) (b : Addr), ∀ f ∈ adcForms v z b ++ sbcForms v z b, s.p.d = true →
    ¬(validBcd s.a.toNat ∧ validBcd (operandOf f.2 s)) → Runs f.1 s fun t =>
    PcPast f.1 s t ∧
    t = { s with
      a := t.a
      p := { s.p with n := t.p.n, v := t.p.v, z := t.p.z, c := t.p.c }
      pc := t.pc
      draws := t.draws }

/-- The sense of C is the spec's general knowledge G5 (log entry 11). Addresses wrap as the spec's own decisions D3 and D6
say (log entry 11). The PC clause wraps modulo 65536, the spec's own decision D2 (log entry 11). -/
def Obligations.CompareResult : Prop :=
  ∀ (s : State) (v z : Byte) (b : Addr), ∀ f ∈ compareForms v z b s, Runs f.1 s fun t =>
    let diff : Int := f.2.2.toNat - operandOf f.2.1 s
    PcPast f.1 s t ∧
    t = { s with
      p := { s.p with c := decide (0 ≤ diff), z := decide (diff = 0), n := decide (128 ≤ diff % 256) }
      pc := t.pc }

/-- Binary whatever D is: the spec's general knowledge G6 (log entry 11). A byte stored is there afterwards where the board
has RAM. Elsewhere see RegisterAndMemoryWriters (log entry 7). The PC clause wraps modulo 65536, the spec's own decision D2
(log entry 11). -/
def Obligations.IncDecResult : Prop :=
  ∀ (s : State) (z : Byte) (b : Addr), ∀ f ∈ incDecForms z b,
    (f.2.1 = .acc → Runs f.1 s fun t =>
      t.a.toNat = f.2.2 s.a.toNat ∧ PcPast f.1 s t ∧
      t = { s with a := t.a, p := nzOf s.p (f.2.2 s.a.toNat), pc := t.pc }) ∧
    ∀ m, f.2.1 = .mem m → Runs f.1 s fun t =>
      let old := (Memory.read s.mem (effAddr m s)).toNat
      (Ram s (effAddr m s) → (Memory.read t.mem (effAddr m s)).toNat = f.2.2 old) ∧
      BytesKept [effAddr m s] s t ∧ PcPast f.1 s t ∧
      t = { s with p := nzOf s.p (f.2.2 old), pc := t.pc, mem := t.mem }

/-- Binary whatever D is: the spec's general knowledge G6 (log entry 11). The PC clause wraps modulo 65536, the spec's own
decision D2 (log entry 11). -/
def Obligations.IndexStepsResult : Prop :=
  ∀ s : State,
    (encode .inx = [0xE8] ∧ encode .iny = [0xC8] ∧ encode .dex = [0xCA] ∧ encode .dey = [0x88]) ∧
    (∀ i ∈ ([.inx, .iny, .dex, .dey] : List Instr), cycleCount i s = 2) ∧
    (Runs .inx s fun t =>
      PcPast .inx s t ∧ t.x.toNat = (s.x.toNat + 1) % 256 ∧ t = { s with x := t.x, p := nzOf s.p t.x.toNat, pc := t.pc }) ∧
    (Runs .iny s fun t =>
      PcPast .iny s t ∧ t.y.toNat = (s.y.toNat + 1) % 256 ∧ t = { s with y := t.y, p := nzOf s.p t.y.toNat, pc := t.pc }) ∧
    (Runs .dex s fun t =>
      PcPast .dex s t ∧ t.x.toNat = (s.x.toNat + 255) % 256 ∧ t = { s with x := t.x, p := nzOf s.p t.x.toNat, pc := t.pc }) ∧
    (Runs .dey s fun t =>
      PcPast .dey s t ∧ t.y.toNat = (s.y.toNat + 255) % 256 ∧ t = { s with y := t.y, p := nzOf s.p t.y.toNat, pc := t.pc })

/-- Written on natural numbers, whose bits are those of the bytes. Addresses wrap as the spec's own decisions D3 and D6 say
(log entry 11). The PC clause wraps modulo 65536, the spec's own decision D2 (log entry 11). -/
def Obligations.AndOraEorResult : Prop :=
  ∀ (s : State) (v z : Byte) (b : Addr),
    (∀ f ∈ andForms v z b, Runs f.1 s fun t =>
      t.a.toNat = s.a.toNat &&& operandOf f.2 s ∧ PcPast f.1 s t ∧
      t = { s with a := t.a, p := nzOf s.p (s.a.toNat &&& operandOf f.2 s), pc := t.pc }) ∧
    (∀ f ∈ oraForms v z b, Runs f.1 s fun t =>
      t.a.toNat = s.a.toNat ||| operandOf f.2 s ∧ PcPast f.1 s t ∧
      t = { s with a := t.a, p := nzOf s.p (s.a.toNat ||| operandOf f.2 s), pc := t.pc }) ∧
    (∀ f ∈ eorForms v z b, Runs f.1 s fun t =>
      t.a.toNat = s.a.toNat ^^^ operandOf f.2 s ∧ PcPast f.1 s t ∧
      t = { s with a := t.a, p := nzOf s.p (s.a.toNat ^^^ operandOf f.2 s), pc := t.pc })

/-- All five forms of BIT. Addresses wrap as the spec's own decisions D3 and D6 say (log entry 11). The PC clause wraps
modulo 65536, the spec's own decision D2 (log entry 11). -/
def Obligations.BitResult : Prop :=
  ∀ (s : State) (v z : Byte) (b : Addr),
    (Runs (.bitImm v) s fun t =>
      PcPast (.bitImm v) s t ∧ t = { s with p := { s.p with z := decide (s.a.toNat &&& v.toNat = 0) }, pc := t.pc }) ∧
    ∀ f ∈ bitForms z b, Runs f.1 s fun t =>
      let m := operandOf (.mem f.2) s
      PcPast f.1 s t ∧
      t = { s with
        p := { s.p with z := decide (s.a.toNat &&& m = 0), n := m.testBit 7, v := m.testBit 6 }
        pc := t.pc }

/-- R174 and R175. The effective address is the number 40 R101 gives. What is written is read back from RAM (20 R53). -/
def Obligations.TrbTsbResult : Prop :=
  ∀ (s : State) (z : Byte) (b : Addr), ∀ f ∈ trbTsbForms z b,
    encode f.1 = f.2.2.2.1 ∧ cycleCount f.1 s = f.2.2.2.2 ∧ (effAddr f.2.1 s).toNat = addressOf f.2.1 s ∧
    Runs f.1 s fun t =>
      let old := Memory.read s.mem (effAddr f.2.1 s)
      (Ram s (effAddr f.2.1 s) → Memory.read t.mem (effAddr f.2.1 s) = f.2.2.1 s.a old) ∧
      BytesKept [effAddr f.2.1 s] s t ∧
      t = { s with p := { s.p with z := decide (s.a &&& old = 0) }, pc := t.pc, mem := t.mem }

/-- LSR's N is 0, since its result is below 128. A byte stored is there afterwards where the board has RAM. Elsewhere see
RegisterAndMemoryWriters (log entry 7). The PC clause wraps modulo 65536, the spec's own decision D2 (log entry 11). -/
def Obligations.ShiftResult : Prop :=
  ∀ (s : State) (z : Byte) (b : Addr), ∀ f ∈ shiftForms z b,
    (f.2.1 = .acc → Runs f.1 s fun t =>
      t.a.toNat = f.2.2.1 s.a.toNat s.p.c.toNat ∧ PcPast f.1 s t ∧
      t = { s with a := t.a, p := { nzOf s.p (f.2.2.1 s.a.toNat s.p.c.toNat) with c := f.2.2.2 s.a.toNat }, pc := t.pc }) ∧
    ∀ m, f.2.1 = .mem m → Runs f.1 s fun t =>
      let old := (Memory.read s.mem (effAddr m s)).toNat
      (Ram s (effAddr m s) → (Memory.read t.mem (effAddr m s)).toNat = f.2.2.1 old s.p.c.toNat) ∧
      BytesKept [effAddr m s] s t ∧ PcPast f.1 s t ∧
      t = { s with p := { nzOf s.p (f.2.2.1 old s.p.c.toNat) with c := f.2.2.2 old }, pc := t.pc, mem := t.mem }

/-- That the offset counts from the next instruction is the spec's decision D17, the wrap its D2 (log entry 11). -/
def Obligations.BranchResult : Prop :=
  ∀ (s : State) (off : Byte), ∀ f ∈ branchForms off s.p, Runs f.1 s fun t =>
    (t.pc.toNat : Int) = (s.pc.toNat + 2 + if f.2 then signed off.toNat else 0) % 65536 ∧ t = { s with pc := t.pc }

/-- At $FFFF the word's high byte is at $0000, the spec's decision D3 (log entry 11). -/
def Obligations.JmpResult : Prop :=
  ∀ (s : State) (b : Addr),
    ∀ f ∈ ([(.jmpAbs b, .abs b), (.jmpAbsind b, .absind b), (.jmpAbsxind b, .absxind b)] : List (Instr × MemMode)),
      Runs f.1 s fun t => t.pc.toNat = addressOf f.2 s ∧ t = { s with pc := t.pc }

/-- S wraps inside page one; the pushed address wraps modulo 65536 (D2, log entry 11). A byte stored is there afterwards
where the board has RAM. Elsewhere see RegisterAndMemoryWriters (log entry 7). -/
def Obligations.JsrResult : Prop :=
  ∀ (s : State) (b : Addr), Runs (.jsr b) s fun t =>
    t.pc = b ∧
    (Ram s (stackAddr s.sp) → (Memory.read t.mem (stackAddr s.sp)).toNat = (s.pc.toNat + 2) % 65536 / 256) ∧
    (Ram s (stackAddr (s.sp - 1)) → (Memory.read t.mem (stackAddr (s.sp - 1))).toNat = (s.pc.toNat + 2) % 256) ∧
    BytesKept [stackAddr s.sp, stackAddr (s.sp - 1)] s t ∧
    t = { s with sp := s.sp - 2, pc := b, mem := t.mem }

/-- R207. S + 1 and S + 2 wrap inside page one. -/
def Obligations.RtsResult : Prop :=
  ∀ s : State,
    encode .rts = [0x60] ∧ cycleCount .rts s = 6 ∧
    (let lo := (Memory.read s.mem (stackAddr (s.sp + 1))).toNat
     let hi := (Memory.read s.mem (stackAddr (s.sp + 2))).toNat
     ((busCycles .rts s).map fun c => (c.addr.toNat, c.wrote, c.io))[5]? = some (hi * 256 + lo, none, true) ∧
     Runs .rts s fun t => t.pc.toNat = (hi * 256 + lo + 1) % 65536 ∧ t = { s with sp := s.sp + 2, pc := t.pc })

/-- Bits 5 and 4 of the pulled byte are not read. -/
def Obligations.RtiResult : Prop :=
  ∀ s : State, Runs .rti s fun t =>
    let v := (Memory.read s.mem (stackAddr (s.sp + 1))).toNat
    t.pc.toNat = (Memory.read s.mem (stackAddr (s.sp + 3))).toNat * 256 + (Memory.read s.mem (stackAddr (s.sp + 2))).toNat ∧
    t = { s with
      sp := s.sp + 3
      p := ⟨v.testBit 7, v.testBit 6, v.testBit 3, v.testBit 2, v.testBit 1, v.testBit 0⟩
      pc := t.pc }

/-- R215, R217, R219, R221. With S = $00 the byte goes to $0100 and S becomes $FF. What is pushed is read back from RAM (20
R53). -/
def Obligations.PushResult : Prop :=
  ∀ s : State,
    (encode .pha = [0x48] ∧ encode .php = [0x08] ∧ encode .phx = [0xDA] ∧ encode .phy = [0x5A]) ∧
    (stackAddr s.sp).toNat = 256 + s.sp.toNat ∧
    ∀ f ∈ ([(.pha, s.a.toNat), (.phx, s.x.toNat), (.phy, s.y.toNat), (.php, imageOf s.p true)] : List (Instr × Nat)),
      cycleCount f.1 s = 3 ∧ Runs f.1 s fun t =>
        (Ram s (stackAddr s.sp) → (Memory.read t.mem (stackAddr s.sp)).toNat = f.2) ∧ BytesKept [stackAddr s.sp] s t ∧
        t.sp.toNat = (s.sp.toNat + 255) % 256 ∧ t = { s with sp := t.sp, pc := t.pc, mem := t.mem }

/-- R216, R220, R222. With S = $FF the byte comes from $0100 and S becomes $00. -/
def Obligations.PullResult : Prop :=
  ∀ s : State,
    (encode .pla = [0x68] ∧ encode .plx = [0xFA] ∧ encode .ply = [0x7A]) ∧
    (∀ i ∈ ([.pla, .plx, .ply] : List Instr), cycleCount i s = 4) ∧
    (let m := Memory.read s.mem (BitVec.ofNat 16 (256 + (s.sp.toNat + 1) % 256))
     (Runs .pla s fun t => t.a = m ∧ t.sp.toNat = (s.sp.toNat + 1) % 256 ∧
       t = { s with a := m, p := nzOf s.p m.toNat, sp := t.sp, pc := t.pc }) ∧
     (Runs .plx s fun t => t.x = m ∧ t.sp.toNat = (s.sp.toNat + 1) % 256 ∧
       t = { s with x := m, p := nzOf s.p m.toNat, sp := t.sp, pc := t.pc }) ∧
     (Runs .ply s fun t => t.y = m ∧ t.sp.toNat = (s.sp.toNat + 1) % 256 ∧
       t = { s with y := m, p := nzOf s.p m.toNat, sp := t.sp, pc := t.pc }))

/-- That the new I holds at the very next boundary is the spec's decision D15 (log entry 11), which IrqTaken states. The PC
clause wraps modulo 65536, the spec's own decision D2 (log entry 11). -/
def Obligations.PlpCliSeiResult : Prop :=
  ∀ s : State,
    (Runs .plp s fun t =>
      let v := (Memory.read s.mem (stackAddr (s.sp + 1))).toNat
      PcPast .plp s t ∧
      t = { s with
        sp := s.sp + 1
        p := ⟨v.testBit 7, v.testBit 6, v.testBit 3, v.testBit 2, v.testBit 1, v.testBit 0⟩
        pc := t.pc }) ∧
    (Runs .cli s fun t => PcPast .cli s t ∧ t = { s with p := { s.p with i := false }, pc := t.pc }) ∧
    (Runs .sei s fun t => PcPast .sei s t ∧ t = { s with p := { s.p with i := true }, pc := t.pc })

/-- R230, R231, R233, R234, R235. The PC clause wraps modulo 65536, the spec's own decision D2 (log entry 11). -/
def Obligations.FlagInstructionsResult : Prop :=
  ∀ s : State,
    (encode .clc = [0x18] ∧ encode .cld = [0xD8] ∧ encode .clv = [0xB8] ∧ encode .sec = [0x38] ∧ encode .sed = [0xF8]) ∧
    (∀ i ∈ ([.clc, .cld, .clv, .sec, .sed] : List Instr), cycleCount i s = 2) ∧
    (Runs .clc s fun t => PcPast .clc s t ∧ t = { s with p := { s.p with c := false }, pc := t.pc }) ∧
    (Runs .cld s fun t => PcPast .cld s t ∧ t = { s with p := { s.p with d := false }, pc := t.pc }) ∧
    (Runs .clv s fun t => PcPast .clv s t ∧ t = { s with p := { s.p with v := false }, pc := t.pc }) ∧
    (Runs .sec s fun t => PcPast .sec s t ∧ t = { s with p := { s.p with c := true }, pc := t.pc }) ∧
    (Runs .sed s fun t => PcPast .sed s t ∧ t = { s with p := { s.p with d := true }, pc := t.pc })

/-- The image pushed holds the flags before I and D change. The return address wraps modulo 65536 (D2, log entry 11). The
bytes pushed are there afterwards where the stack is RAM; elsewhere nothing changes, the model's choice (log entry 7). -/
def Obligations.BrkResult : Prop :=
  ∀ (s : State) (sig : Byte), Runs (.brk sig) s fun t => EntersHandler 0xFFFE true (s.pc + 2) s t

/-- Column F is executed with one byte, the spec's decision D7 (log entry 8). The PC clause wraps modulo 65536, the spec's
own decision D2 (log entry 11). -/
def Obligations.NoOperationResult : Prop :=
  ∀ (s : State) (pad pad2 : Byte), ∀ i ∈ noOperations pad pad2,
    i.length = opcodeLength ((encode i).getD 0 0) ∧ Runs i s fun t => PcPast i s t ∧ t = { s with pc := t.pc }

/-- What ends the two states is WaitingAndStoppedLast, NmiTaken, IrqTaken and ResetEvent. The PC clause wraps modulo 65536,
the spec's own decision D2 (log entry 11). -/
def Obligations.WaiStpResult : Prop :=
  ∀ s : State,
    (Runs .wai s fun t => PcPast .wai s t ∧ t = { s with run := .waiting, pc := t.pc }) ∧
    (Runs .stp s fun t => PcPast .stp s t ∧ t = { s with run := .stopped, pc := t.pc })

/-- The lists of the register rules, over all instructions: a shift, INC or DEC writes A in accumulator mode and memory in
the others. The pushes and pulls of every family are the writers of S. That a write changes nothing where there is no RAM is
the model's choice (log entry 7). -/
def Obligations.RegisterAndMemoryWriters : Prop :=
  ∀ (i : Instr) (s t : State), exec i s = .next t →
    (t.a ≠ s.a → i.op ∈ ([.lda, .pla, .txa, .tya, .adc, .sbc, .and, .ora, .eor] : List Op) ∨ i.format = .acc) ∧
    (t.x ≠ s.x → i.op ∈ ([.ldx, .plx, .tax, .tsx, .inx, .dex] : List Op)) ∧
    (t.y ≠ s.y → i.op ∈ ([.ldy, .ply, .tay, .iny, .dey] : List Op)) ∧
    (t.sp ≠ s.sp → i.op ∈ ([.txs, .pha, .php, .phx, .phy, .pla, .plp, .plx, .ply, .jsr, .rts, .rti, .brk] : List Op)) ∧
    (¬BytesKept [] s t →
      i.op ∈ ([.sta, .stx, .sty, .stz, .pha, .php, .phx, .phy, .jsr, .brk, .trb, .tsb] : List Op) ∨
      (i.op ∈ ([.asl, .lsr, .rol, .ror, .inc, .dec] : List Op) ∧ i.format ≠ .acc)) ∧
    (t.run ≠ s.run → i.op = .wai ∨ i.op = .stp) ∧ OthersKept s t ∧ t.nmiPending = s.nmiPending ∧
    t.env = s.env ∧ t.board = s.board

/-- The writer lists of the six flags; the pin SO- is in InputsArrive. -/
def Obligations.FlagWriters : Prop :=
  ∀ (i : Instr) (s t : State), exec i s = .next t →
    (t.p.n ≠ s.p.n →
      i.op ∈ ([.lda, .ldx, .ldy, .tax, .tay, .txa, .tya, .tsx, .pla, .plx, .ply, .inc, .inx, .iny, .dec, .dex, .dey, .and,
        .ora, .eor, .asl, .lsr, .rol, .ror, .adc, .sbc, .cmp, .cpx, .cpy, .plp, .rti] : List Op) ∨
      (i.op = .bit ∧ i.format ≠ .imm)) ∧
    (t.p.v ≠ s.p.v → i.op ∈ ([.adc, .sbc, .clv, .plp, .rti] : List Op) ∨ (i.op = .bit ∧ i.format ≠ .imm)) ∧
    (t.p.d ≠ s.p.d → i.op ∈ ([.sed, .cld, .plp, .rti, .brk] : List Op)) ∧
    (t.p.i ≠ s.p.i → i.op ∈ ([.sei, .cli, .plp, .rti, .brk] : List Op)) ∧
    (t.p.z ≠ s.p.z →
      i.op ∈ ([.lda, .ldx, .ldy, .tax, .tay, .txa, .tya, .tsx, .pla, .plx, .ply, .inc, .inx, .iny, .dec, .dex, .dey, .and,
        .ora, .eor, .asl, .lsr, .rol, .ror, .adc, .sbc, .cmp, .cpx, .cpy, .bit, .trb, .tsb, .plp, .rti] : List Op)) ∧
    (t.p.c ≠ s.p.c →
      i.op ∈ ([.adc, .sbc, .cmp, .cpx, .cpy, .asl, .lsr, .rol, .ror, .clc, .sec, .plp, .rti] : List Op))

/-- No other instruction's result depends on D. PHP and BRK push D among the flags. -/
def Obligations.DecimalFlagMattersOnlyToAddSub : Prop :=
  ∀ (i : Instr) (s t : State) (d : Bool), i.op ∉ ([.adc, .sbc, .php, .brk] : List Op) → exec i s = .next t →
    ∃ u, exec i (withD s d) = .next u ∧ withD u false = withD t false

/-- Links `effAddr`, which the store statements use, to the arithmetic of the rule. Addresses wrap as the spec's own
decisions D3 and D6 say (log entry 11). -/
def Obligations.EffectiveAddress : Prop :=
  ∀ (m : MemMode) (s : State), (effAddr m s).toNat = addressOf m s

/-- R150, whole. -/
def Obligations.BinaryAdditionHelper : Prop :=
  ∀ (a m : Byte) (c : Bool),
    let sum := a.toNat + m.toNat + c.toNat
    let ssum := signed a.toNat + signed m.toNat + c.toNat
    sum ≤ 511 ∧ (addBin a m c).r.toNat = sum % 256 ∧ ((addBin a m c).c = true ↔ 255 < sum) ∧
    ((addBin a m c).v = true ↔ ssum < -128 ∨ 127 < ssum) ∧
    (addBin a m c).v = ((a ^^^ (addBin a m c).r) &&& (m ^^^ (addBin a m c).r)).getLsbD 7

/-- Subtracting is adding the one's complement. The sense of the carry is the spec's general knowledge G4 (log entry 11). -/
def Obligations.SbcIsAdcOfComplement : Prop :=
  ∀ (s : State) (v : Byte), s.p.d = false → exec (.sbcImm v) s = exec (.adcImm (~~~v)) s

/-- The first two clauses are R36, the last follows from it and R35. -/
def Obligations.StatusByteRoundTrip : Prop :=
  (∀ v : Byte, loadP v = ⟨v.toNat.testBit 7, v.toNat.testBit 6, v.toNat.testBit 3, v.toNat.testBit 2, v.toNat.testBit 1,
    v.toNat.testBit 0⟩) ∧
  (∀ v w : Byte, (∀ k : Nat, k ≠ 4 → k ≠ 5 → v.toNat.testBit k = w.toNat.testBit k) → loadP v = loadP w) ∧
  ∀ (p : Status) (b : Bool) (v : Byte), v.toNat = imageOf p b → loadP v = p

/-- An annotation outside the step. Where the spec gives no address or no count, log entry 10 says what stands in it. -/
def Obligations.BusCyclesMatchCount : Prop :=
  ∀ (i : Instr) (s : State),
    (busCycles i s).length = cycleCount i s ∧
    ((busCycles i s).head?.map fun c => (c.addr, c.sync)) = some (s.pc, true) ∧
    (∀ c ∈ (busCycles i s).tail, c.sync = false) ∧
    (∀ c ∈ busCycles i s, c.mlLow = true →
      i.op ∈ ([.asl, .lsr, .rol, .ror, .inc, .dec, .trb, .tsb] : List Op) ∧ i.format ≠ .acc) ∧
    (∀ c ∈ busCycles i s, c.vpLow = true → i.op = .brk)

/-- The bus annotation agrees with the effect on memory. The byte of a write cycle is defined through that effect, on a
board of RAM: the model's choice (log entry 10), as is what stands where the spec gives no address. That a write elsewhere
changes no byte is log entry 7. -/
def Obligations.BusWritesAreTheStores : Prop :=
  ∀ (i : Instr) (s t : State), exec i s = .next t →
    (∀ c ∈ busCycles i s, ∀ v, c.wrote = some v → Ram s c.addr → Memory.read t.mem c.addr = v) ∧
    (∀ a : Addr, Memory.read t.mem a ≠ Memory.read s.mem a → ∃ c ∈ busCycles i s, c.addr = a ∧ c.wrote ≠ none) ∧
    ∀ b : Board, busCycles i { s with board := b } = busCycles i s

/-- Beside StxStyResult, TransfersResult, TrbTsbResult, PushResult and PullResult, which leave PC free. The PC clause wraps
modulo 65536, the spec's own decision D2 (log entry 11). -/
def Obligations.PcAdvances : Prop :=
  ∀ (s : State) (z : Byte) (b : Addr), ∀ i ∈ pcForms z b, Runs i s (PcPast i s)
end

