-- ==== Sys2Proof/Laws/Bytes.lean ====
section
/-! SUPPORT. The numbers that the byte and address helpers stand for. -/

namespace Sys2Proof

@[simp] theorem mkAddr_toNat (hi lo : Byte) : (mkAddr hi lo).toNat = hi.toNat * 256 + lo.toNat := by
  simp only [mkAddr, BitVec.toNat_ofNat]
  omega

@[simp] theorem loByte_toNat (a : Addr) : (loByte a).toNat = a.toNat % 256 := by
  simp [loByte]

@[simp] theorem hiByte_toNat (a : Addr) : (hiByte a).toNat = a.toNat / 256 := by
  simp only [hiByte, BitVec.toNat_setWidth, BitVec.toNat_ushiftRight, Nat.shiftRight_eq_div_pow]
  omega

@[simp] theorem zext_toNat (z : Byte) : (zext z).toNat = z.toNat := by
  simp only [zext, BitVec.toNat_setWidth]
  omega

@[simp] theorem stackAddr_toNat (sp : Byte) : (stackAddr sp).toNat = 256 + sp.toNat := by
  have h : (0x0100 : Addr).toNat = 256 := rfl
  simp only [stackAddr, BitVec.toNat_add, zext_toNat, h]
  omega

/-- Splitting an address into its bytes and putting it together again. -/
@[simp] theorem mkAddr_hiByte_loByte (a : Addr) : mkAddr (hiByte a) (loByte a) = a := by
  apply BitVec.eq_of_toNat_eq
  simp only [mkAddr_toNat, hiByte_toNat, loByte_toNat]
  omega

@[simp] theorem loByte_mkAddr (hi lo : Byte) : loByte (mkAddr hi lo) = lo := by
  apply BitVec.eq_of_toNat_eq
  simp only [mkAddr_toNat, loByte_toNat]
  omega

@[simp] theorem hiByte_mkAddr (hi lo : Byte) : hiByte (mkAddr hi lo) = hi := by
  apply BitVec.eq_of_toNat_eq
  simp only [mkAddr_toNat, hiByte_toNat]
  omega

/-- Different stack pointers address different locations of page one. -/
@[simp] theorem stackAddr_inj (s t : Byte) : stackAddr s = stackAddr t ↔ s = t := by
  constructor
  · intro h
    apply BitVec.eq_of_toNat_eq
    have := congrArg BitVec.toNat h
    simpa using this
  · intro h
    rw [h]

end Sys2Proof
end

