-- ==== Sys2Proof/Laws/Memory.lean ====
section
/-! SUPPORT. The laws of memory: a read after a write, and the canonical form, which every operation keeps. The read laws
hold for every list, canonical or not. -/

namespace Sys2Proof.Machine

theorem Memory.lookup_dropAt_same (m : Memory) (n : Nat) : Memory.lookup (Memory.dropAt m n) n = Memory.unlisted := by
  induction m with
  | nil => rfl
  | cons c m ih =>
    obtain ⟨k, w⟩ := c
    by_cases h : k = n
    · simpa [Memory.dropAt, h] using ih
    · simpa [Memory.dropAt, h, Memory.lookup] using ih

theorem Memory.lookup_dropAt_other (m : Memory) {n k : Nat} (h : k ≠ n) :
    Memory.lookup (Memory.dropAt m n) k = Memory.lookup m k := by
  induction m with
  | nil => rfl
  | cons c m ih =>
    obtain ⟨j, w⟩ := c
    by_cases hj : j = n
    · subst hj
      have : Memory.lookup ((j, w) :: m) k = Memory.lookup m k := by simp [Memory.lookup, Ne.symm h]
      rw [this, ← ih]
      simp [Memory.dropAt]
    · by_cases hk : j = k <;> simp_all [Memory.dropAt, Memory.lookup]

theorem Memory.lookup_insertAt_same (m : Memory) (n : Nat) (v : Byte) (h : ∀ c ∈ m, c.1 ≠ n) :
    Memory.lookup (Memory.insertAt m n v) n = v := by
  induction m with
  | nil => simp [Memory.insertAt, Memory.lookup]
  | cons c m ih =>
    obtain ⟨k, w⟩ := c
    have hk : k ≠ n := h (k, w) (by simp)
    by_cases hn : n < k
    · simp [Memory.insertAt, hn, Memory.lookup]
    · simpa [Memory.insertAt, hn, Memory.lookup, hk] using ih (fun c hc => h c (by simp [hc]))

theorem Memory.lookup_insertAt_other (m : Memory) (v : Byte) {n k : Nat} (h : k ≠ n) :
    Memory.lookup (Memory.insertAt m n v) k = Memory.lookup m k := by
  induction m with
  | nil => simp [Memory.insertAt, Memory.lookup, Ne.symm h]
  | cons c m ih =>
    obtain ⟨j, w⟩ := c
    by_cases hn : n < j
    · simp [Memory.insertAt, hn, Memory.lookup, Ne.symm h]
    · rw [Memory.insertAt, if_neg hn, Memory.lookup, Memory.lookup, ih]

theorem Memory.dropAt_ne (m : Memory) (n : Nat) : ∀ c ∈ Memory.dropAt m n, c.1 ≠ n := by
  intro c hc
  simpa using (List.mem_filter.mp hc).2

/-- A read of the address just written gives the byte written (20_memory R53). -/
@[simp] theorem Memory.read_write_same (m : Memory) (a : Addr) (v : Byte) :
    Memory.read (Memory.write m a v) a = v := by
  unfold Memory.read Memory.write
  split
  · next h => rw [h, Memory.lookup_dropAt_same]
  · exact Memory.lookup_insertAt_same _ _ _ (Memory.dropAt_ne m _)

/-- A write leaves every other address alone. -/
theorem Memory.read_write_other (m : Memory) {a b : Addr} (v : Byte) (h : b ≠ a) :
    Memory.read (Memory.write m a v) b = Memory.read m b := by
  have hn : b.toNat ≠ a.toNat := fun e => h (BitVec.eq_of_toNat_eq e)
  unfold Memory.read Memory.write
  split
  · exact Memory.lookup_dropAt_other m hn
  · rw [Memory.lookup_insertAt_other _ _ hn, Memory.lookup_dropAt_other m hn]

/-- Both laws in one. -/
theorem Memory.read_write (m : Memory) (a b : Addr) (v : Byte) :
    Memory.read (Memory.write m a v) b = if b = a then v else Memory.read m b := by
  by_cases h : b = a
  · simp [h]
  · simp [h, Memory.read_write_other m v h]

/-- A read after several writes, at an address none of them names. -/
theorem Memory.read_writeAll_other (ws : List (Addr × Byte)) (m : Memory) (b : Addr) (h : ∀ w ∈ ws, w.1 ≠ b) :
    Memory.read (Memory.writeAll m ws) b = Memory.read m b := by
  induction ws generalizing m with
  | nil => rfl
  | cons w ws ih =>
    obtain ⟨a, v⟩ := w
    have ha : b ≠ a := fun e => h (a, v) (by simp) e.symm
    rw [Memory.writeAll, ih _ (fun w hw => h w (by simp [hw])), Memory.read_write_other m v ha]

/-- A read after several writes, at an address that the last write to it gives the byte `v`. -/
theorem Memory.read_writeAll_last (ws rest : List (Addr × Byte)) (m : Memory) (a : Addr) (v : Byte)
    (h : ∀ w ∈ rest, w.1 ≠ a) : Memory.read (Memory.writeAll m (ws ++ (a, v) :: rest)) a = v := by
  induction ws generalizing m with
  | nil => rw [List.nil_append, Memory.writeAll, Memory.read_writeAll_other _ _ _ h, Memory.read_write_same]
  | cons w ws ih => exact ih _

theorem Memory.nil_wf : Memory.wf [] := ⟨List.Pairwise.nil, by simp⟩

theorem Memory.dropAt_wf {m : Memory} (h : Memory.wf m) (n : Nat) : Memory.wf (Memory.dropAt m n) :=
  ⟨h.1.filter _, fun c hc => h.2 c (List.mem_filter.mp hc).1⟩

theorem Memory.mem_insertAt (m : Memory) (n : Nat) (v : Byte) (c : Host.Cell) (hc : c ∈ Memory.insertAt m n v) :
    c = (n, v) ∨ c ∈ m := by
  induction m with
  | nil => simpa [Memory.insertAt] using hc
  | cons d m ih =>
    obtain ⟨k, w⟩ := d
    by_cases hn : n < k
    · simpa [Memory.insertAt, hn] using hc
    · rw [Memory.insertAt, if_neg hn] at hc
      rcases List.mem_cons.mp hc with h | h
      · exact Or.inr (by simp [h])
      · rcases ih h with h | h
        · exact Or.inl h
        · exact Or.inr (by simp [h])

theorem Memory.insertAt_wf {m : Memory} (h : Memory.wf m) {n : Nat} {v : Byte} (hn : n < 65536)
    (hv : v ≠ Memory.unlisted) (hne : ∀ c ∈ m, c.1 ≠ n) : Memory.wf (Memory.insertAt m n v) := by
  induction m with
  | nil => exact ⟨by simp [Memory.insertAt], by simp [Memory.insertAt, hn, hv]⟩
  | cons d m ih =>
    obtain ⟨k, w⟩ := d
    have hk : k ≠ n := hne (k, w) (by simp)
    obtain ⟨hlow, hrest⟩ := List.pairwise_cons.mp h.1
    by_cases hlt : n < k
    · rw [Memory.insertAt, if_pos hlt]
      refine ⟨List.pairwise_cons.mpr ⟨?_, h.1⟩, ?_⟩
      · intro c hc
        rcases List.mem_cons.mp hc with hc | hc
        · simpa [hc] using hlt
        · exact Nat.lt_trans hlt (hlow c hc)
      · intro c hc
        rcases List.mem_cons.mp hc with hc | hc
        · simpa [hc] using ⟨hn, hv⟩
        · exact h.2 c hc
    · have hm : Memory.wf m := ⟨hrest, fun c hc => h.2 c (by simp [hc])⟩
      have hi := ih hm (fun c hc => hne c (by simp [hc]))
      rw [Memory.insertAt, if_neg hlt]
      refine ⟨List.pairwise_cons.mpr ⟨?_, hi.1⟩, ?_⟩
      · intro c hc
        rcases Memory.mem_insertAt m n v c hc with e | hc
        · subst e
          change k < n
          omega
        · exact hlow c hc
      · intro c hc
        rcases List.mem_cons.mp hc with hc | hc
        · exact h.2 c (by simp [hc])
        · exact hi.2 c hc

/-- A write keeps the canonical form. -/
theorem Memory.write_wf {m : Memory} (h : Memory.wf m) (a : Addr) (v : Byte) : Memory.wf (Memory.write m a v) := by
  unfold Memory.write
  split
  · exact Memory.dropAt_wf h _
  · next hv => exact Memory.insertAt_wf (Memory.dropAt_wf h _) a.isLt hv (Memory.dropAt_ne m _)

/-- Several writes keep the canonical form. -/
theorem Memory.writeAll_wf (ws : List (Addr × Byte)) {m : Memory} (h : Memory.wf m) :
    Memory.wf (Memory.writeAll m ws) := by
  induction ws generalizing m with
  | nil => exact h
  | cons w ws ih => exact ih (Memory.write_wf h _ _)

end Sys2Proof.Machine
end

