-- ==== Sys2Proof/Laws/Board.lean ====
section
/-! SUPPORT. The laws of a write by the processor on a board. -/

namespace Sys2Proof.Machine

theorem Board.write_ram {b : Board} {a : Addr} (h : b.kindAt a = .ram) (m : Memory) (v : Byte) :
    b.write m a v = Memory.write m a v := by
  simp [Board.write, h]

theorem Board.write_other {b : Board} {a : Addr} (h : b.kindAt a ≠ .ram) (m : Memory) (v : Byte) : b.write m a v = m := by
  unfold Board.write
  split <;> simp_all

/-- All a write by the processor does: RAM at its address reads as the byte, and every other read is as before. -/
theorem Board.read_write (b : Board) (m : Memory) (a x : Addr) (v : Byte) :
    Memory.read (b.write m a v) x = if x = a ∧ b.kindAt x = .ram then v else Memory.read m x := by
  by_cases h : b.kindAt a = .ram
  · rw [Board.write_ram h, Memory.read_write]
    by_cases e : x = a
    · subst e; simp [h]
    · simp [e]
  · rw [Board.write_other h]
    by_cases e : x = a
    · subst e; simp [h]
    · simp [e]

/-- What is written to RAM is read back (20_memory R53). -/
theorem Board.read_write_ram {b : Board} {a : Addr} (h : b.kindAt a = .ram) (m : Memory) (v : Byte) :
    Memory.read (b.write m a v) a = v := by
  rw [Board.read_write, if_pos ⟨rfl, h⟩]

/-- A write leaves every other address alone. -/
theorem Board.read_write_ne (b : Board) (m : Memory) {a x : Addr} (h : x ≠ a) (v : Byte) :
    Memory.read (b.write m a v) x = Memory.read m x := by
  rw [Board.read_write, if_neg fun e => h e.1]

/-- A write leaves every location alone that is not RAM (log entry 7). -/
theorem Board.read_write_other {b : Board} {x : Addr} (h : b.kindAt x ≠ .ram) (m : Memory) (a : Addr) (v : Byte) :
    Memory.read (b.write m a v) x = Memory.read m x := by
  rw [Board.read_write, if_neg fun e => h e.2]

/-- A write by the processor keeps the canonical form. -/
theorem Board.write_wf (b : Board) {m : Memory} (h : m.wf) (a : Addr) (v : Byte) : (b.write m a v).wf := by
  unfold Board.write
  split
  · exact Memory.write_wf h _ _
  all_goals exact h

@[simp] theorem Board.allRam_kindAt (a : Addr) : Board.allRam.kindAt a = .ram := rfl

/-- On a board that is all RAM every write lands. -/
@[simp] theorem Board.allRam_write (m : Memory) (a : Addr) (v : Byte) : Board.allRam.write m a v = Memory.write m a v := rfl

end Sys2Proof.Machine
end

