-- ==== Sys2Proof/Laws/State.lean ====
section
/-! SUPPORT. One lemma per field per update of State, true by rfl, so that no later proof unfolds a record update. -/

namespace Sys2Proof.Machine

@[simp] theorem State.setA_a (s : State) (w : Byte) : (s.setA w).a = w := rfl
@[simp] theorem State.setA_x (s : State) (w : Byte) : (s.setA w).x = s.x := rfl
@[simp] theorem State.setA_y (s : State) (w : Byte) : (s.setA w).y = s.y := rfl
@[simp] theorem State.setA_sp (s : State) (w : Byte) : (s.setA w).sp = s.sp := rfl
@[simp] theorem State.setA_pc (s : State) (w : Byte) : (s.setA w).pc = s.pc := rfl
@[simp] theorem State.setA_p (s : State) (w : Byte) : (s.setA w).p = s.p := rfl
@[simp] theorem State.setA_nmiPending (s : State) (w : Byte) : (s.setA w).nmiPending = s.nmiPending := rfl
@[simp] theorem State.setA_run (s : State) (w : Byte) : (s.setA w).run = s.run := rfl
@[simp] theorem State.setA_mem (s : State) (w : Byte) : (s.setA w).mem = s.mem := rfl
@[simp] theorem State.setA_env (s : State) (w : Byte) : (s.setA w).env = s.env := rfl
@[simp] theorem State.setA_board (s : State) (w : Byte) : (s.setA w).board = s.board := rfl
@[simp] theorem State.setA_draws (s : State) (w : Byte) : (s.setA w).draws = s.draws := rfl

@[simp] theorem State.setX_a (s : State) (w : Byte) : (s.setX w).a = s.a := rfl
@[simp] theorem State.setX_x (s : State) (w : Byte) : (s.setX w).x = w := rfl
@[simp] theorem State.setX_y (s : State) (w : Byte) : (s.setX w).y = s.y := rfl
@[simp] theorem State.setX_sp (s : State) (w : Byte) : (s.setX w).sp = s.sp := rfl
@[simp] theorem State.setX_pc (s : State) (w : Byte) : (s.setX w).pc = s.pc := rfl
@[simp] theorem State.setX_p (s : State) (w : Byte) : (s.setX w).p = s.p := rfl
@[simp] theorem State.setX_nmiPending (s : State) (w : Byte) : (s.setX w).nmiPending = s.nmiPending := rfl
@[simp] theorem State.setX_run (s : State) (w : Byte) : (s.setX w).run = s.run := rfl
@[simp] theorem State.setX_mem (s : State) (w : Byte) : (s.setX w).mem = s.mem := rfl
@[simp] theorem State.setX_env (s : State) (w : Byte) : (s.setX w).env = s.env := rfl
@[simp] theorem State.setX_board (s : State) (w : Byte) : (s.setX w).board = s.board := rfl
@[simp] theorem State.setX_draws (s : State) (w : Byte) : (s.setX w).draws = s.draws := rfl

@[simp] theorem State.setY_a (s : State) (w : Byte) : (s.setY w).a = s.a := rfl
@[simp] theorem State.setY_x (s : State) (w : Byte) : (s.setY w).x = s.x := rfl
@[simp] theorem State.setY_y (s : State) (w : Byte) : (s.setY w).y = w := rfl
@[simp] theorem State.setY_sp (s : State) (w : Byte) : (s.setY w).sp = s.sp := rfl
@[simp] theorem State.setY_pc (s : State) (w : Byte) : (s.setY w).pc = s.pc := rfl
@[simp] theorem State.setY_p (s : State) (w : Byte) : (s.setY w).p = s.p := rfl
@[simp] theorem State.setY_nmiPending (s : State) (w : Byte) : (s.setY w).nmiPending = s.nmiPending := rfl
@[simp] theorem State.setY_run (s : State) (w : Byte) : (s.setY w).run = s.run := rfl
@[simp] theorem State.setY_mem (s : State) (w : Byte) : (s.setY w).mem = s.mem := rfl
@[simp] theorem State.setY_env (s : State) (w : Byte) : (s.setY w).env = s.env := rfl
@[simp] theorem State.setY_board (s : State) (w : Byte) : (s.setY w).board = s.board := rfl
@[simp] theorem State.setY_draws (s : State) (w : Byte) : (s.setY w).draws = s.draws := rfl

@[simp] theorem State.setSp_a (s : State) (w : Byte) : (s.setSp w).a = s.a := rfl
@[simp] theorem State.setSp_x (s : State) (w : Byte) : (s.setSp w).x = s.x := rfl
@[simp] theorem State.setSp_y (s : State) (w : Byte) : (s.setSp w).y = s.y := rfl
@[simp] theorem State.setSp_sp (s : State) (w : Byte) : (s.setSp w).sp = w := rfl
@[simp] theorem State.setSp_pc (s : State) (w : Byte) : (s.setSp w).pc = s.pc := rfl
@[simp] theorem State.setSp_p (s : State) (w : Byte) : (s.setSp w).p = s.p := rfl
@[simp] theorem State.setSp_nmiPending (s : State) (w : Byte) : (s.setSp w).nmiPending = s.nmiPending := rfl
@[simp] theorem State.setSp_run (s : State) (w : Byte) : (s.setSp w).run = s.run := rfl
@[simp] theorem State.setSp_mem (s : State) (w : Byte) : (s.setSp w).mem = s.mem := rfl
@[simp] theorem State.setSp_env (s : State) (w : Byte) : (s.setSp w).env = s.env := rfl
@[simp] theorem State.setSp_board (s : State) (w : Byte) : (s.setSp w).board = s.board := rfl
@[simp] theorem State.setSp_draws (s : State) (w : Byte) : (s.setSp w).draws = s.draws := rfl

@[simp] theorem State.setPc_a (s : State) (w : Addr) : (s.setPc w).a = s.a := rfl
@[simp] theorem State.setPc_x (s : State) (w : Addr) : (s.setPc w).x = s.x := rfl
@[simp] theorem State.setPc_y (s : State) (w : Addr) : (s.setPc w).y = s.y := rfl
@[simp] theorem State.setPc_sp (s : State) (w : Addr) : (s.setPc w).sp = s.sp := rfl
@[simp] theorem State.setPc_pc (s : State) (w : Addr) : (s.setPc w).pc = w := rfl
@[simp] theorem State.setPc_p (s : State) (w : Addr) : (s.setPc w).p = s.p := rfl
@[simp] theorem State.setPc_nmiPending (s : State) (w : Addr) : (s.setPc w).nmiPending = s.nmiPending := rfl
@[simp] theorem State.setPc_run (s : State) (w : Addr) : (s.setPc w).run = s.run := rfl
@[simp] theorem State.setPc_mem (s : State) (w : Addr) : (s.setPc w).mem = s.mem := rfl
@[simp] theorem State.setPc_env (s : State) (w : Addr) : (s.setPc w).env = s.env := rfl
@[simp] theorem State.setPc_board (s : State) (w : Addr) : (s.setPc w).board = s.board := rfl
@[simp] theorem State.setPc_draws (s : State) (w : Addr) : (s.setPc w).draws = s.draws := rfl

@[simp] theorem State.setP_a (s : State) (w : Status) : (s.setP w).a = s.a := rfl
@[simp] theorem State.setP_x (s : State) (w : Status) : (s.setP w).x = s.x := rfl
@[simp] theorem State.setP_y (s : State) (w : Status) : (s.setP w).y = s.y := rfl
@[simp] theorem State.setP_sp (s : State) (w : Status) : (s.setP w).sp = s.sp := rfl
@[simp] theorem State.setP_pc (s : State) (w : Status) : (s.setP w).pc = s.pc := rfl
@[simp] theorem State.setP_p (s : State) (w : Status) : (s.setP w).p = w := rfl
@[simp] theorem State.setP_nmiPending (s : State) (w : Status) : (s.setP w).nmiPending = s.nmiPending := rfl
@[simp] theorem State.setP_run (s : State) (w : Status) : (s.setP w).run = s.run := rfl
@[simp] theorem State.setP_mem (s : State) (w : Status) : (s.setP w).mem = s.mem := rfl
@[simp] theorem State.setP_env (s : State) (w : Status) : (s.setP w).env = s.env := rfl
@[simp] theorem State.setP_board (s : State) (w : Status) : (s.setP w).board = s.board := rfl
@[simp] theorem State.setP_draws (s : State) (w : Status) : (s.setP w).draws = s.draws := rfl

@[simp] theorem State.setNmi_a (s : State) (w : Bool) : (s.setNmi w).a = s.a := rfl
@[simp] theorem State.setNmi_x (s : State) (w : Bool) : (s.setNmi w).x = s.x := rfl
@[simp] theorem State.setNmi_y (s : State) (w : Bool) : (s.setNmi w).y = s.y := rfl
@[simp] theorem State.setNmi_sp (s : State) (w : Bool) : (s.setNmi w).sp = s.sp := rfl
@[simp] theorem State.setNmi_pc (s : State) (w : Bool) : (s.setNmi w).pc = s.pc := rfl
@[simp] theorem State.setNmi_p (s : State) (w : Bool) : (s.setNmi w).p = s.p := rfl
@[simp] theorem State.setNmi_nmiPending (s : State) (w : Bool) : (s.setNmi w).nmiPending = w := rfl
@[simp] theorem State.setNmi_run (s : State) (w : Bool) : (s.setNmi w).run = s.run := rfl
@[simp] theorem State.setNmi_mem (s : State) (w : Bool) : (s.setNmi w).mem = s.mem := rfl
@[simp] theorem State.setNmi_env (s : State) (w : Bool) : (s.setNmi w).env = s.env := rfl
@[simp] theorem State.setNmi_board (s : State) (w : Bool) : (s.setNmi w).board = s.board := rfl
@[simp] theorem State.setNmi_draws (s : State) (w : Bool) : (s.setNmi w).draws = s.draws := rfl

@[simp] theorem State.setRun_a (s : State) (w : RunState) : (s.setRun w).a = s.a := rfl
@[simp] theorem State.setRun_x (s : State) (w : RunState) : (s.setRun w).x = s.x := rfl
@[simp] theorem State.setRun_y (s : State) (w : RunState) : (s.setRun w).y = s.y := rfl
@[simp] theorem State.setRun_sp (s : State) (w : RunState) : (s.setRun w).sp = s.sp := rfl
@[simp] theorem State.setRun_pc (s : State) (w : RunState) : (s.setRun w).pc = s.pc := rfl
@[simp] theorem State.setRun_p (s : State) (w : RunState) : (s.setRun w).p = s.p := rfl
@[simp] theorem State.setRun_nmiPending (s : State) (w : RunState) : (s.setRun w).nmiPending = s.nmiPending := rfl
@[simp] theorem State.setRun_run (s : State) (w : RunState) : (s.setRun w).run = w := rfl
@[simp] theorem State.setRun_mem (s : State) (w : RunState) : (s.setRun w).mem = s.mem := rfl
@[simp] theorem State.setRun_env (s : State) (w : RunState) : (s.setRun w).env = s.env := rfl
@[simp] theorem State.setRun_board (s : State) (w : RunState) : (s.setRun w).board = s.board := rfl
@[simp] theorem State.setRun_draws (s : State) (w : RunState) : (s.setRun w).draws = s.draws := rfl

@[simp] theorem State.setMem_a (s : State) (w : Memory) : (s.setMem w).a = s.a := rfl
@[simp] theorem State.setMem_x (s : State) (w : Memory) : (s.setMem w).x = s.x := rfl
@[simp] theorem State.setMem_y (s : State) (w : Memory) : (s.setMem w).y = s.y := rfl
@[simp] theorem State.setMem_sp (s : State) (w : Memory) : (s.setMem w).sp = s.sp := rfl
@[simp] theorem State.setMem_pc (s : State) (w : Memory) : (s.setMem w).pc = s.pc := rfl
@[simp] theorem State.setMem_p (s : State) (w : Memory) : (s.setMem w).p = s.p := rfl
@[simp] theorem State.setMem_nmiPending (s : State) (w : Memory) : (s.setMem w).nmiPending = s.nmiPending := rfl
@[simp] theorem State.setMem_run (s : State) (w : Memory) : (s.setMem w).run = s.run := rfl
@[simp] theorem State.setMem_mem (s : State) (w : Memory) : (s.setMem w).mem = w := rfl
@[simp] theorem State.setMem_env (s : State) (w : Memory) : (s.setMem w).env = s.env := rfl
@[simp] theorem State.setMem_board (s : State) (w : Memory) : (s.setMem w).board = s.board := rfl
@[simp] theorem State.setMem_draws (s : State) (w : Memory) : (s.setMem w).draws = s.draws := rfl

@[simp] theorem State.drawn_a (s : State) : (s.drawn).a = s.a := rfl
@[simp] theorem State.drawn_x (s : State) : (s.drawn).x = s.x := rfl
@[simp] theorem State.drawn_y (s : State) : (s.drawn).y = s.y := rfl
@[simp] theorem State.drawn_sp (s : State) : (s.drawn).sp = s.sp := rfl
@[simp] theorem State.drawn_pc (s : State) : (s.drawn).pc = s.pc := rfl
@[simp] theorem State.drawn_p (s : State) : (s.drawn).p = s.p := rfl
@[simp] theorem State.drawn_nmiPending (s : State) : (s.drawn).nmiPending = s.nmiPending := rfl
@[simp] theorem State.drawn_run (s : State) : (s.drawn).run = s.run := rfl
@[simp] theorem State.drawn_mem (s : State) : (s.drawn).mem = s.mem := rfl
@[simp] theorem State.drawn_env (s : State) : (s.drawn).env = s.env := rfl
@[simp] theorem State.drawn_board (s : State) : (s.drawn).board = s.board := rfl
@[simp] theorem State.drawn_draws (s : State) : (s.drawn).draws = s.draws + 1 := rfl

@[simp] theorem State.store_a (s : State) (b : Addr) (w : Byte) : (s.store b w).a = s.a := rfl
@[simp] theorem State.store_x (s : State) (b : Addr) (w : Byte) : (s.store b w).x = s.x := rfl
@[simp] theorem State.store_y (s : State) (b : Addr) (w : Byte) : (s.store b w).y = s.y := rfl
@[simp] theorem State.store_sp (s : State) (b : Addr) (w : Byte) : (s.store b w).sp = s.sp := rfl
@[simp] theorem State.store_pc (s : State) (b : Addr) (w : Byte) : (s.store b w).pc = s.pc := rfl
@[simp] theorem State.store_p (s : State) (b : Addr) (w : Byte) : (s.store b w).p = s.p := rfl
@[simp] theorem State.store_nmiPending (s : State) (b : Addr) (w : Byte) : (s.store b w).nmiPending = s.nmiPending := rfl
@[simp] theorem State.store_run (s : State) (b : Addr) (w : Byte) : (s.store b w).run = s.run := rfl
@[simp] theorem State.store_mem (s : State) (b : Addr) (w : Byte) : (s.store b w).mem = s.board.write s.mem b w := rfl
@[simp] theorem State.store_env (s : State) (b : Addr) (w : Byte) : (s.store b w).env = s.env := rfl
@[simp] theorem State.store_board (s : State) (b : Addr) (w : Byte) : (s.store b w).board = s.board := rfl
@[simp] theorem State.store_draws (s : State) (b : Addr) (w : Byte) : (s.store b w).draws = s.draws := rfl

@[simp] theorem State.setNZ_a (s : State) (w : Byte) : (s.setNZ w).a = s.a := rfl
@[simp] theorem State.setNZ_x (s : State) (w : Byte) : (s.setNZ w).x = s.x := rfl
@[simp] theorem State.setNZ_y (s : State) (w : Byte) : (s.setNZ w).y = s.y := rfl
@[simp] theorem State.setNZ_sp (s : State) (w : Byte) : (s.setNZ w).sp = s.sp := rfl
@[simp] theorem State.setNZ_pc (s : State) (w : Byte) : (s.setNZ w).pc = s.pc := rfl
@[simp] theorem State.setNZ_p (s : State) (w : Byte) : (s.setNZ w).p = s.p.setNZ w := rfl
@[simp] theorem State.setNZ_nmiPending (s : State) (w : Byte) : (s.setNZ w).nmiPending = s.nmiPending := rfl
@[simp] theorem State.setNZ_run (s : State) (w : Byte) : (s.setNZ w).run = s.run := rfl
@[simp] theorem State.setNZ_mem (s : State) (w : Byte) : (s.setNZ w).mem = s.mem := rfl
@[simp] theorem State.setNZ_env (s : State) (w : Byte) : (s.setNZ w).env = s.env := rfl
@[simp] theorem State.setNZ_board (s : State) (w : Byte) : (s.setNZ w).board = s.board := rfl
@[simp] theorem State.setNZ_draws (s : State) (w : Byte) : (s.setNZ w).draws = s.draws := rfl

@[simp] theorem State.advance_a (s : State) (n : Nat) : (s.advance n).a = s.a := rfl
@[simp] theorem State.advance_x (s : State) (n : Nat) : (s.advance n).x = s.x := rfl
@[simp] theorem State.advance_y (s : State) (n : Nat) : (s.advance n).y = s.y := rfl
@[simp] theorem State.advance_sp (s : State) (n : Nat) : (s.advance n).sp = s.sp := rfl
@[simp] theorem State.advance_pc (s : State) (n : Nat) : (s.advance n).pc = s.pc + BitVec.ofNat 16 n := rfl
@[simp] theorem State.advance_p (s : State) (n : Nat) : (s.advance n).p = s.p := rfl
@[simp] theorem State.advance_nmiPending (s : State) (n : Nat) : (s.advance n).nmiPending = s.nmiPending := rfl
@[simp] theorem State.advance_run (s : State) (n : Nat) : (s.advance n).run = s.run := rfl
@[simp] theorem State.advance_mem (s : State) (n : Nat) : (s.advance n).mem = s.mem := rfl
@[simp] theorem State.advance_env (s : State) (n : Nat) : (s.advance n).env = s.env := rfl
@[simp] theorem State.advance_board (s : State) (n : Nat) : (s.advance n).board = s.board := rfl
@[simp] theorem State.advance_draws (s : State) (n : Nat) : (s.advance n).draws = s.draws := rfl

@[simp] theorem State.push_a (s : State) (w : Byte) : (s.push w).a = s.a := rfl
@[simp] theorem State.push_x (s : State) (w : Byte) : (s.push w).x = s.x := rfl
@[simp] theorem State.push_y (s : State) (w : Byte) : (s.push w).y = s.y := rfl
@[simp] theorem State.push_sp (s : State) (w : Byte) : (s.push w).sp = s.sp - 1 := rfl
@[simp] theorem State.push_pc (s : State) (w : Byte) : (s.push w).pc = s.pc := rfl
@[simp] theorem State.push_p (s : State) (w : Byte) : (s.push w).p = s.p := rfl
@[simp] theorem State.push_nmiPending (s : State) (w : Byte) : (s.push w).nmiPending = s.nmiPending := rfl
@[simp] theorem State.push_run (s : State) (w : Byte) : (s.push w).run = s.run := rfl
@[simp] theorem State.push_mem (s : State) (w : Byte) : (s.push w).mem = s.board.write s.mem (stackAddr s.sp) w := rfl
@[simp] theorem State.push_env (s : State) (w : Byte) : (s.push w).env = s.env := rfl
@[simp] theorem State.push_board (s : State) (w : Byte) : (s.push w).board = s.board := rfl
@[simp] theorem State.push_draws (s : State) (w : Byte) : (s.push w).draws = s.draws := rfl

@[simp] theorem State.pull_a (s : State) : (s.pull).a = s.a := rfl
@[simp] theorem State.pull_x (s : State) : (s.pull).x = s.x := rfl
@[simp] theorem State.pull_y (s : State) : (s.pull).y = s.y := rfl
@[simp] theorem State.pull_sp (s : State) : (s.pull).sp = s.sp + 1 := rfl
@[simp] theorem State.pull_pc (s : State) : (s.pull).pc = s.pc := rfl
@[simp] theorem State.pull_p (s : State) : (s.pull).p = s.p := rfl
@[simp] theorem State.pull_nmiPending (s : State) : (s.pull).nmiPending = s.nmiPending := rfl
@[simp] theorem State.pull_run (s : State) : (s.pull).run = s.run := rfl
@[simp] theorem State.pull_mem (s : State) : (s.pull).mem = s.mem := rfl
@[simp] theorem State.pull_env (s : State) : (s.pull).env = s.env := rfl
@[simp] theorem State.pull_board (s : State) : (s.pull).board = s.board := rfl
@[simp] theorem State.pull_draws (s : State) : (s.pull).draws = s.draws := rfl

@[simp] theorem Status.setNZ_n (p : Status) (w : Byte) : (p.setNZ w).n = w.getLsbD 7 := rfl
@[simp] theorem Status.setNZ_v (p : Status) (w : Byte) : (p.setNZ w).v = p.v := rfl
@[simp] theorem Status.setNZ_d (p : Status) (w : Byte) : (p.setNZ w).d = p.d := rfl
@[simp] theorem Status.setNZ_i (p : Status) (w : Byte) : (p.setNZ w).i = p.i := rfl
@[simp] theorem Status.setNZ_z (p : Status) (w : Byte) : (p.setNZ w).z = (w == 0) := rfl
@[simp] theorem Status.setNZ_c (p : Status) (w : Byte) : (p.setNZ w).c = p.c := rfl

@[simp] theorem Status.compare_v (p : Status) (r m : Byte) : (p.compare r m).v = p.v := rfl
@[simp] theorem Status.compare_d (p : Status) (r m : Byte) : (p.compare r m).d = p.d := rfl
@[simp] theorem Status.compare_i (p : Status) (r m : Byte) : (p.compare r m).i = p.i := rfl

end Sys2Proof.Machine
end

