-- ==== Sys2Proof/Laws/Ops.lean ====
section
/-! SUPPORT. For each shared operation, what it does, said once: a record update for the operations on registers, reads and
fields for those on memory. The proofs cite these lemmas instead of unfolding the operations. -/

namespace Sys2Proof.Machine

theorem loadA_eq (src : Source) (s : State) : loadA src s =
    { s with a := operand src s, pc := s.pc + BitVec.ofNat 16 src.length, p := s.p.setNZ (operand src s) } := rfl

theorem loadX_eq (src : Source) (s : State) : loadX src s =
    { s with x := operand src s, pc := s.pc + BitVec.ofNat 16 src.length, p := s.p.setNZ (operand src s) } := rfl

theorem loadY_eq (src : Source) (s : State) : loadY src s =
    { s with y := operand src s, pc := s.pc + BitVec.ofNat 16 src.length, p := s.p.setNZ (operand src s) } := rfl

theorem storeByte_eq (m : MemMode) (v : Byte) (s : State) : storeByte m v s =
    { s with pc := s.pc + BitVec.ofNat 16 m.length, mem := s.board.write s.mem (effAddr m s) v } := rfl

theorem andA_eq (src : Source) (s : State) : andA src s =
    { s with a := s.a &&& operand src s, pc := s.pc + BitVec.ofNat 16 src.length,
             p := s.p.setNZ (s.a &&& operand src s) } := rfl

theorem orA_eq (src : Source) (s : State) : orA src s =
    { s with a := s.a ||| operand src s, pc := s.pc + BitVec.ofNat 16 src.length,
             p := s.p.setNZ (s.a ||| operand src s) } := rfl

theorem eorA_eq (src : Source) (s : State) : eorA src s =
    { s with a := s.a ^^^ operand src s, pc := s.pc + BitVec.ofNat 16 src.length,
             p := s.p.setNZ (s.a ^^^ operand src s) } := rfl

theorem compareA_eq (src : Source) (s : State) : compareA src s =
    { s with pc := s.pc + BitVec.ofNat 16 src.length, p := s.p.compare s.a (operand src s) } := rfl

theorem compareX_eq (src : Source) (s : State) : compareX src s =
    { s with pc := s.pc + BitVec.ofNat 16 src.length, p := s.p.compare s.x (operand src s) } := rfl

theorem compareY_eq (src : Source) (s : State) : compareY src s =
    { s with pc := s.pc + BitVec.ofNat 16 src.length, p := s.p.compare s.y (operand src s) } := rfl

theorem bitImmediate_eq (v : Byte) (s : State) : bitImmediate v s =
    { s with pc := s.pc + 2, p := { s.p with z := (s.a &&& v) == 0 } } := rfl

theorem bitMemory_eq (m : MemMode) (s : State) : bitMemory m s =
    { s with
      pc := s.pc + BitVec.ofNat 16 m.length
      p := { s.p with
        z := (s.a &&& Memory.read s.mem (effAddr m s)) == 0
        n := (Memory.read s.mem (effAddr m s)).getLsbD 7
        v := (Memory.read s.mem (effAddr m s)).getLsbD 6 } } := rfl

theorem rmw_acc_eq (f : Byte → Status → Byte × Status) (s : State) : rmw .acc f s =
    { s with a := (f s.a s.p).1, p := (f s.a s.p).2, pc := s.pc + 1 } := rfl

theorem rmw_mem_eq (m : MemMode) (f : Byte → Status → Byte × Status) (s : State) : rmw (.mem m) f s =
    { s with
      pc := s.pc + BitVec.ofNat 16 m.length
      p := (f (Memory.read s.mem (effAddr m s)) s.p).2
      mem := s.board.write s.mem (effAddr m s) (f (Memory.read s.mem (effAddr m s)) s.p).1 } := rfl

/-- A binary ADC or SBC changes A, the four flags and nothing else. -/
theorem binaryResult_eq (r : AluResult) (s : State) : binaryResult r s =
    { s with a := r.r, p := { s.p with n := r.r.getLsbD 7, v := r.v, z := r.r == 0, c := r.c } } := rfl

theorem decimalResult_valid (r : Byte × Bool) (s : State) : decimalResult true r s =
    { s with
      a := r.1
      p := { s.p with n := r.1.getLsbD 7, v := Config.decimalV s.draws, z := r.1 == 0, c := r.2 }
      draws := s.draws + 1 } := rfl

theorem decimalResult_invalid (r : Byte × Bool) (s : State) : decimalResult false r s =
    { s with
      a := Config.invalidA s.draws
      p := { s.p with
        n := Config.invalidN s.draws
        v := Config.invalidV s.draws
        z := Config.invalidZ s.draws
        c := Config.invalidC s.draws }
      draws := s.draws + 1 } := rfl

/-- ADC in binary mode. -/
theorem addWithCarry_binary (src : Source) (s : State) (h : s.p.d = false) :
    addWithCarry src s = binaryResult (addBin s.a (operand src s) s.p.c) (s.advance src.length) := by
  simp [addWithCarry, h]

/-- ADC in decimal mode. -/
theorem addWithCarry_decimal (src : Source) (s : State) (h : s.p.d = true) :
    addWithCarry src s = decimalResult (bcdValid s.a && bcdValid (operand src s))
      (addDec s.a (operand src s) s.p.c) (s.advance src.length) := by
  simp [addWithCarry, h]

/-- SBC in binary mode. -/
theorem subWithBorrow_binary (src : Source) (s : State) (h : s.p.d = false) :
    subWithBorrow src s = binaryResult (subBin s.a (operand src s) s.p.c) (s.advance src.length) := by
  simp [subWithBorrow, h]

/-- SBC in decimal mode. -/
theorem subWithBorrow_decimal (src : Source) (s : State) (h : s.p.d = true) :
    subWithBorrow src s = decimalResult (bcdValid s.a && bcdValid (operand src s))
      (subDec s.a (operand src s) s.p.c) (s.advance src.length) := by
  simp [subWithBorrow, h]

/-- The two outcomes of a branch. -/
theorem branch_eq (cond : Bool) (off : Byte) (s : State) :
    branch cond off s = s.setPc (if cond then s.pc + 2 + sext off else s.pc + 2) := by
  cases cond <;> rfl

/-- The byte just pushed is the byte the next pull takes, where the stack is RAM. -/
theorem pulled_push (s : State) (v : Byte) :
    (s.push v).pulled = if s.board.kindAt (stackAddr s.sp) = .ram then v else Memory.read s.mem (stackAddr s.sp) := by
  simp [State.pulled, Board.read_write]

/-- A pull after a push leaves S as it was. -/
@[simp] theorem pull_push_sp (s : State) (v : Byte) : ((s.push v).pull).sp = s.sp := by
  simp

/-- A push writes one byte of page one, where that is RAM. -/
theorem read_push (s : State) (v : Byte) (b : Addr) :
    Memory.read (s.push v).mem b =
      if b = stackAddr s.sp ∧ s.board.kindAt b = .ram then v else Memory.read s.mem b := by
  simp [Board.read_write]

/-- An address outside page one is no stack location. -/
theorem ne_stackAddr {b : Addr} (sp : Byte) (h : b.toNat < 256 ∨ 512 ≤ b.toNat) : b ≠ stackAddr sp := by
  intro e
  have h1 := congrArg BitVec.toNat e
  have h2 := sp.isLt
  rw [stackAddr_toNat] at h1
  omega

/-- The memory an interrupt sequence leaves. -/
theorem interruptSequence_mem (vector : Addr) (b : Bool) (ret : Addr) (s : State) :
    (interruptSequence vector b ret s).mem =
      s.board.write (s.board.write (s.board.write s.mem (stackAddr s.sp) (hiByte ret)) (stackAddr (s.sp - 1)) (loByte ret))
        (stackAddr (s.sp - 1 - 1)) (s.p.image b) := rfl

@[simp] theorem interruptSequence_a (vector : Addr) (b : Bool) (ret : Addr) (s : State) :
    (interruptSequence vector b ret s).a = s.a := by simp [interruptSequence]
@[simp] theorem interruptSequence_x (vector : Addr) (b : Bool) (ret : Addr) (s : State) :
    (interruptSequence vector b ret s).x = s.x := by simp [interruptSequence]
@[simp] theorem interruptSequence_y (vector : Addr) (b : Bool) (ret : Addr) (s : State) :
    (interruptSequence vector b ret s).y = s.y := by simp [interruptSequence]
@[simp] theorem interruptSequence_sp (vector : Addr) (b : Bool) (ret : Addr) (s : State) :
    (interruptSequence vector b ret s).sp = s.sp - 1 - 1 - 1 := by simp [interruptSequence]
@[simp] theorem interruptSequence_p (vector : Addr) (b : Bool) (ret : Addr) (s : State) :
    (interruptSequence vector b ret s).p = { s.p with i := true, d := false } := by simp [interruptSequence]
@[simp] theorem interruptSequence_pc (vector : Addr) (b : Bool) (ret : Addr) (s : State) :
    (interruptSequence vector b ret s).pc = Memory.read16 (interruptSequence vector b ret s).mem vector := by simp [interruptSequence]
@[simp] theorem interruptSequence_nmiPending (vector : Addr) (b : Bool) (ret : Addr) (s : State) :
    (interruptSequence vector b ret s).nmiPending = s.nmiPending := by simp [interruptSequence]
@[simp] theorem interruptSequence_run (vector : Addr) (b : Bool) (ret : Addr) (s : State) :
    (interruptSequence vector b ret s).run = s.run := by simp [interruptSequence]
@[simp] theorem interruptSequence_env (vector : Addr) (b : Bool) (ret : Addr) (s : State) :
    (interruptSequence vector b ret s).env = s.env := by simp [interruptSequence]
@[simp] theorem interruptSequence_board (vector : Addr) (b : Bool) (ret : Addr) (s : State) :
    (interruptSequence vector b ret s).board = s.board := by simp [interruptSequence]
@[simp] theorem interruptSequence_draws (vector : Addr) (b : Bool) (ret : Addr) (s : State) :
    (interruptSequence vector b ret s).draws = s.draws := by simp [interruptSequence]

/-- The reset sequence changes no byte of memory (60_exceptions R266). -/
@[simp] theorem resetSequence_mem (s : State) : (resetSequence s).mem = s.mem := rfl

/-- RTI reads three bytes of page one and changes P, PC and S. -/
theorem returnFromInterrupt_eq (s : State) : returnFromInterrupt s =
    { s with
      sp := s.sp + 1 + 1 + 1
      p := loadP s.pulled
      pc := mkAddr ((s.pull).pull).pulled (s.pull).pulled } := by
  simp only [returnFromInterrupt, State.setPc, State.setP, State.pull, State.setSp]

/-- RTS reads two bytes of page one and changes PC and S. -/
theorem returnFromSubroutine_eq (s : State) : returnFromSubroutine s =
    { s with sp := s.sp + 1 + 1, pc := mkAddr (s.pull).pulled s.pulled + 1 } := rfl

/-- JSR pushes two bytes and changes PC and S. -/
theorem callSubroutine_eq (target : Addr) (s : State) : callSubroutine target s =
    { s with
      sp := s.sp - 1 - 1
      pc := target
      mem := s.board.write (s.board.write s.mem (stackAddr s.sp) (hiByte (s.pc + 3 - 1))) (stackAddr (s.sp - 1))
        (loByte (s.pc + 3 - 1)) } := by
  simp only [callSubroutine, State.push, State.store, State.setMem, State.setSp, State.setPc, State.advance]

/-- A reserved opcode changes PC only. -/
theorem noOperation_eq (n : Nat) (s : State) : noOperation n s = { s with pc := s.pc + BitVec.ofNat 16 n } := rfl

/-- Every memory operation of an instruction is a chain of writes, so it keeps the canonical form. -/
theorem push_wf {s : State} (h : s.mem.wf) (v : Byte) : (s.push v).mem.wf := Board.write_wf _ h _ _

theorem store_wf {s : State} (h : s.mem.wf) (a : Addr) (v : Byte) : (s.store a v).mem.wf := Board.write_wf _ h _ _

theorem rmw_wf {s : State} (h : s.mem.wf) (tgt : Target) (f : Byte → Status → Byte × Status) : (rmw tgt f s).mem.wf := by
  cases tgt with
  | acc => exact h
  | mem m => exact Board.write_wf _ h _ _

theorem interruptSequence_wf {s : State} (h : s.mem.wf) (vector : Addr) (b : Bool) (ret : Addr) :
    (interruptSequence vector b ret s).mem.wf := Board.write_wf _ (Board.write_wf _ (Board.write_wf _ h _ _) _ _) _ _

/-- The arrival of a boundary's inputs keeps the canonical form, whatever other agents wrote. -/
theorem arrive_wf {s : State} (h : s.mem.wf) : s.arrive.mem.wf := by
  unfold State.arrive
  split <;> exact Memory.writeAll_wf _ h

/-- The fields the arrival of inputs does not touch. -/
theorem arrive_frame (s : State) : s.arrive.a = s.a ∧ s.arrive.x = s.x ∧ s.arrive.y = s.y ∧ s.arrive.sp = s.sp ∧
    s.arrive.pc = s.pc ∧ s.arrive.run = s.run ∧ s.arrive.draws = s.draws ∧ s.arrive.env = s.env.tail ∧
    s.arrive.board = s.board ∧ s.arrive.mem = Memory.writeAll s.mem s.inputs.writes := by
  unfold State.arrive
  split <;> simp

/-- With an environment that drives nothing the arrival changes nothing. -/
theorem arrive_idle (s : State) (h : s.env = []) : s.arrive = s := by
  obtain ⟨a, x, y, sp, pc, p, nmi, run, mem, env, board, draws⟩ := s
  simp only at h
  subst h
  unfold State.arrive
  simp [State.inputs, Inputs.idle, Memory.writeAll]

end Sys2Proof.Machine
end

