-- ==== Sys2Proof/Laws/Exec.lean ====
section
/-! SUPPORT. What an instruction can do to memory, said once over all instructions. -/

namespace Sys2Proof.Machine

/-- What one instruction does to memory: nothing, or writes of the processor on the board, one after the other. -/
inductive MemoryEffect (b : Board) (m : Memory) : Memory → Prop where
  | none : MemoryEffect b m m
  | write {n : Memory} (a : Addr) (v : Byte) : MemoryEffect b m n → MemoryEffect b m (b.write n a v)

/-- The canonical form goes through every memory effect. -/
theorem MemoryEffect.wf {b : Board} {m n : Memory} (h : MemoryEffect b m n) (hm : m.wf) : n.wf := by
  induction h with
  | none => exact hm
  | write a v _ ih => exact Board.write_wf b ih a v

/-- A location that is not RAM reads as before. -/
theorem MemoryEffect.read_other {b : Board} {m n : Memory} (h : MemoryEffect b m n) {a : Addr} (ha : b.kindAt a ≠ .ram) :
    Memory.read n a = Memory.read m a := by
  induction h with
  | none => rfl
  | write x v _ ih => rw [Board.read_write_other ha, ih]

@[simp] theorem decimalResult_mem (valid : Bool) (r : Byte × Bool) (s : State) : (decimalResult valid r s).mem = s.mem := by
  cases valid <;> rfl

@[simp] theorem addWithCarry_mem (src : Source) (s : State) : (addWithCarry src s).mem = s.mem := by
  unfold addWithCarry
  split
  · rw [decimalResult_mem]; rfl
  · rfl

@[simp] theorem subWithBorrow_mem (src : Source) (s : State) : (subWithBorrow src s).mem = s.mem := by
  unfold subWithBorrow
  split
  · rw [decimalResult_mem]; rfl
  · rfl

@[simp] theorem decimalResult_board (valid : Bool) (r : Byte × Bool) (s : State) :
    (decimalResult valid r s).board = s.board := by
  cases valid <;> rfl

@[simp] theorem addWithCarry_board (src : Source) (s : State) : (addWithCarry src s).board = s.board := by
  unfold addWithCarry
  split
  · rw [decimalResult_board]; rfl
  · rfl

@[simp] theorem subWithBorrow_board (src : Source) (s : State) : (subWithBorrow src s).board = s.board := by
  unfold subWithBorrow
  split
  · rw [decimalResult_board]; rfl
  · rfl

theorem addWithCarry_effect (src : Source) (s : State) : MemoryEffect s.board s.mem (addWithCarry src s).mem := by
  rw [addWithCarry_mem]; exact .none

theorem subWithBorrow_effect (src : Source) (s : State) : MemoryEffect s.board s.mem (subWithBorrow src s).mem := by
  rw [subWithBorrow_mem]; exact .none

theorem branch_effect (cond : Bool) (off : Byte) (s : State) : MemoryEffect s.board s.mem (branch cond off s).mem := by
  rw [branch_eq]; exact .none

theorem storeByte_effect (m : MemMode) (v : Byte) (s : State) :
    MemoryEffect s.board s.mem (storeByte m v s).mem := .write _ _ .none

theorem rmw_effect (tgt : Target) (f : Byte → Status → Byte × Status) (s : State) :
    MemoryEffect s.board s.mem (rmw tgt f s).mem := by
  cases tgt
  · exact .none
  · exact .write _ _ .none

theorem callSubroutine_effect (b : Addr) (s : State) : MemoryEffect s.board s.mem (callSubroutine b s).mem := by
  rw [callSubroutine_eq]; exact .write _ _ (.write _ _ .none)

theorem interruptSequence_effect (vector : Addr) (b : Bool) (ret : Addr) (s : State) :
    MemoryEffect s.board s.mem (interruptSequence vector b ret s).mem := by
  rw [interruptSequence_mem]; exact .write _ _ (.write _ _ (.write _ _ .none))

theorem push_effect (s : State) (v : Byte) : MemoryEffect s.board s.mem (s.push v).mem := .write _ _ .none

/-- The memory effect of the state an outcome answers, if it answers one. -/
def OutcomeEffect (s : State) : Out → Prop
  | .next t => MemoryEffect s.board s.mem t.mem
  | .fault _ => True
  | .refused _ => True

theorem OutcomeEffect.same {s t : State} (h : t.mem = s.mem) : OutcomeEffect s (.next t) := by
  show MemoryEffect s.board s.mem t.mem
  rw [h]; exact .none

theorem exec_outcomeEffect (s : State) : ∀ i : Instr, OutcomeEffect s (exec i s)
  | .ldaImm _ => .same rfl
  | .ldaZp _ => .same rfl
  | .ldaZpx _ => .same rfl
  | .ldaAbs _ => .same rfl
  | .ldaAbsx _ => .same rfl
  | .ldaAbsy _ => .same rfl
  | .ldaIndx _ => .same rfl
  | .ldaIndy _ => .same rfl
  | .ldaZpind _ => .same rfl
  | .ldxImm _ => .same rfl
  | .ldxZp _ => .same rfl
  | .ldxZpy _ => .same rfl
  | .ldxAbs _ => .same rfl
  | .ldxAbsy _ => .same rfl
  | .ldyImm _ => .same rfl
  | .ldyZp _ => .same rfl
  | .ldyZpx _ => .same rfl
  | .ldyAbs _ => .same rfl
  | .ldyAbsx _ => .same rfl
  | .staZp _ => storeByte_effect _ _ _
  | .staZpx _ => storeByte_effect _ _ _
  | .staAbs _ => storeByte_effect _ _ _
  | .staAbsx _ => storeByte_effect _ _ _
  | .staAbsy _ => storeByte_effect _ _ _
  | .staIndx _ => storeByte_effect _ _ _
  | .staIndy _ => storeByte_effect _ _ _
  | .staZpind _ => storeByte_effect _ _ _
  | .stxZp _ => storeByte_effect _ _ _
  | .stxZpy _ => storeByte_effect _ _ _
  | .stxAbs _ => storeByte_effect _ _ _
  | .styZp _ => storeByte_effect _ _ _
  | .styZpx _ => storeByte_effect _ _ _
  | .styAbs _ => storeByte_effect _ _ _
  | .stzZp _ => storeByte_effect _ _ _
  | .stzZpx _ => storeByte_effect _ _ _
  | .stzAbs _ => storeByte_effect _ _ _
  | .stzAbsx _ => storeByte_effect _ _ _
  | .tax => .same rfl
  | .tay => .same rfl
  | .txa => .same rfl
  | .tya => .same rfl
  | .tsx => .same rfl
  | .txs => .same rfl
  | .adcImm _ => addWithCarry_effect _ _
  | .adcZp _ => addWithCarry_effect _ _
  | .adcZpx _ => addWithCarry_effect _ _
  | .adcAbs _ => addWithCarry_effect _ _
  | .adcAbsx _ => addWithCarry_effect _ _
  | .adcAbsy _ => addWithCarry_effect _ _
  | .adcIndx _ => addWithCarry_effect _ _
  | .adcIndy _ => addWithCarry_effect _ _
  | .adcZpind _ => addWithCarry_effect _ _
  | .sbcImm _ => subWithBorrow_effect _ _
  | .sbcZp _ => subWithBorrow_effect _ _
  | .sbcZpx _ => subWithBorrow_effect _ _
  | .sbcAbs _ => subWithBorrow_effect _ _
  | .sbcAbsx _ => subWithBorrow_effect _ _
  | .sbcAbsy _ => subWithBorrow_effect _ _
  | .sbcIndx _ => subWithBorrow_effect _ _
  | .sbcIndy _ => subWithBorrow_effect _ _
  | .sbcZpind _ => subWithBorrow_effect _ _
  | .cmpImm _ => .same rfl
  | .cmpZp _ => .same rfl
  | .cmpZpx _ => .same rfl
  | .cmpAbs _ => .same rfl
  | .cmpAbsx _ => .same rfl
  | .cmpAbsy _ => .same rfl
  | .cmpIndx _ => .same rfl
  | .cmpIndy _ => .same rfl
  | .cmpZpind _ => .same rfl
  | .cpxImm _ => .same rfl
  | .cpxZp _ => .same rfl
  | .cpxAbs _ => .same rfl
  | .cpyImm _ => .same rfl
  | .cpyZp _ => .same rfl
  | .cpyAbs _ => .same rfl
  | .incAcc => rmw_effect _ _ _
  | .incZp _ => rmw_effect _ _ _
  | .incZpx _ => rmw_effect _ _ _
  | .incAbs _ => rmw_effect _ _ _
  | .incAbsx _ => rmw_effect _ _ _
  | .inx => .same rfl
  | .iny => .same rfl
  | .decAcc => rmw_effect _ _ _
  | .decZp _ => rmw_effect _ _ _
  | .decZpx _ => rmw_effect _ _ _
  | .decAbs _ => rmw_effect _ _ _
  | .decAbsx _ => rmw_effect _ _ _
  | .dex => .same rfl
  | .dey => .same rfl
  | .andImm _ => .same rfl
  | .andZp _ => .same rfl
  | .andZpx _ => .same rfl
  | .andAbs _ => .same rfl
  | .andAbsx _ => .same rfl
  | .andAbsy _ => .same rfl
  | .andIndx _ => .same rfl
  | .andIndy _ => .same rfl
  | .andZpind _ => .same rfl
  | .oraImm _ => .same rfl
  | .oraZp _ => .same rfl
  | .oraZpx _ => .same rfl
  | .oraAbs _ => .same rfl
  | .oraAbsx _ => .same rfl
  | .oraAbsy _ => .same rfl
  | .oraIndx _ => .same rfl
  | .oraIndy _ => .same rfl
  | .oraZpind _ => .same rfl
  | .eorImm _ => .same rfl
  | .eorZp _ => .same rfl
  | .eorZpx _ => .same rfl
  | .eorAbs _ => .same rfl
  | .eorAbsx _ => .same rfl
  | .eorAbsy _ => .same rfl
  | .eorIndx _ => .same rfl
  | .eorIndy _ => .same rfl
  | .eorZpind _ => .same rfl
  | .bitImm _ => .same rfl
  | .bitZp _ => .same rfl
  | .bitZpx _ => .same rfl
  | .bitAbs _ => .same rfl
  | .bitAbsx _ => .same rfl
  | .trbZp _ => rmw_effect _ _ _
  | .trbAbs _ => rmw_effect _ _ _
  | .tsbZp _ => rmw_effect _ _ _
  | .tsbAbs _ => rmw_effect _ _ _
  | .aslAcc => rmw_effect _ _ _
  | .aslZp _ => rmw_effect _ _ _
  | .aslZpx _ => rmw_effect _ _ _
  | .aslAbs _ => rmw_effect _ _ _
  | .aslAbsx _ => rmw_effect _ _ _
  | .lsrAcc => rmw_effect _ _ _
  | .lsrZp _ => rmw_effect _ _ _
  | .lsrZpx _ => rmw_effect _ _ _
  | .lsrAbs _ => rmw_effect _ _ _
  | .lsrAbsx _ => rmw_effect _ _ _
  | .rolAcc => rmw_effect _ _ _
  | .rolZp _ => rmw_effect _ _ _
  | .rolZpx _ => rmw_effect _ _ _
  | .rolAbs _ => rmw_effect _ _ _
  | .rolAbsx _ => rmw_effect _ _ _
  | .rorAcc => rmw_effect _ _ _
  | .rorZp _ => rmw_effect _ _ _
  | .rorZpx _ => rmw_effect _ _ _
  | .rorAbs _ => rmw_effect _ _ _
  | .rorAbsx _ => rmw_effect _ _ _
  | .bcc _ => branch_effect _ _ _
  | .bcs _ => branch_effect _ _ _
  | .beq _ => branch_effect _ _ _
  | .bne _ => branch_effect _ _ _
  | .bmi _ => branch_effect _ _ _
  | .bpl _ => branch_effect _ _ _
  | .bvc _ => branch_effect _ _ _
  | .bvs _ => branch_effect _ _ _
  | .bra _ => branch_effect _ _ _
  | .jmpAbs _ => .same rfl
  | .jmpAbsind _ => .same rfl
  | .jmpAbsxind _ => .same rfl
  | .jsr _ => callSubroutine_effect _ _
  | .rts => .same rfl
  | .rti => .same rfl
  | .pha => push_effect (s.advance 1) _
  | .pla => .same rfl
  | .php => push_effect (s.advance 1) _
  | .plp => .same rfl
  | .phx => push_effect (s.advance 1) _
  | .plx => .same rfl
  | .phy => push_effect (s.advance 1) _
  | .ply => .same rfl
  | .clc => .same rfl
  | .cld => .same rfl
  | .cli => .same rfl
  | .clv => .same rfl
  | .sec => .same rfl
  | .sed => .same rfl
  | .sei => .same rfl
  | .brk _ => interruptSequence_effect _ _ _ (s.advance 2)
  | .nop => .same rfl
  | .wai => .same rfl
  | .stp => .same rfl
  | .rsv02 _ => .same rfl
  | .rsv22 _ => .same rfl
  | .rsv42 _ => .same rfl
  | .rsv44 _ => .same rfl
  | .rsv54 _ => .same rfl
  | .rsv5C _ _ => .same rfl
  | .rsv62 _ => .same rfl
  | .rsv82 _ => .same rfl
  | .rsvC2 _ => .same rfl
  | .rsvD4 _ => .same rfl
  | .rsvDC _ _ => .same rfl
  | .rsvE2 _ => .same rfl
  | .rsvF4 _ => .same rfl
  | .rsvFC _ _ => .same rfl
  | .rsv03 => .same rfl
  | .rsv07 => .same rfl
  | .rsv0B => .same rfl
  | .rsv0F => .same rfl
  | .rsv13 => .same rfl
  | .rsv17 => .same rfl
  | .rsv1B => .same rfl
  | .rsv1F => .same rfl
  | .rsv23 => .same rfl
  | .rsv27 => .same rfl
  | .rsv2B => .same rfl
  | .rsv2F => .same rfl
  | .rsv33 => .same rfl
  | .rsv37 => .same rfl
  | .rsv3B => .same rfl
  | .rsv3F => .same rfl
  | .rsv43 => .same rfl
  | .rsv47 => .same rfl
  | .rsv4B => .same rfl
  | .rsv4F => .same rfl
  | .rsv53 => .same rfl
  | .rsv57 => .same rfl
  | .rsv5B => .same rfl
  | .rsv5F => .same rfl
  | .rsv63 => .same rfl
  | .rsv67 => .same rfl
  | .rsv6B => .same rfl
  | .rsv6F => .same rfl
  | .rsv73 => .same rfl
  | .rsv77 => .same rfl
  | .rsv7B => .same rfl
  | .rsv7F => .same rfl
  | .rsv83 => .same rfl
  | .rsv87 => .same rfl
  | .rsv8B => .same rfl
  | .rsv8F => .same rfl
  | .rsv93 => .same rfl
  | .rsv97 => .same rfl
  | .rsv9B => .same rfl
  | .rsv9F => .same rfl
  | .rsvA3 => .same rfl
  | .rsvA7 => .same rfl
  | .rsvAB => .same rfl
  | .rsvAF => .same rfl
  | .rsvB3 => .same rfl
  | .rsvB7 => .same rfl
  | .rsvBB => .same rfl
  | .rsvBF => .same rfl
  | .rsvC3 => .same rfl
  | .rsvC7 => .same rfl
  | .rsvCF => .same rfl
  | .rsvD3 => .same rfl
  | .rsvD7 => .same rfl
  | .rsvDF => .same rfl
  | .rsvE3 => .same rfl
  | .rsvE7 => .same rfl
  | .rsvEB => .same rfl
  | .rsvEF => .same rfl
  | .rsvF3 => .same rfl
  | .rsvF7 => .same rfl
  | .rsvFB => .same rfl
  | .rsvFF => .same rfl

/-- What an instruction can do to memory. -/
theorem exec_memory {i : Instr} {s t : State} (h : exec i s = .next t) : MemoryEffect s.board s.mem t.mem := by
  have e := exec_outcomeEffect s i
  rw [h] at e
  exact e

end Sys2Proof.Machine
end

