-- ==== Sys2Proof/Laws/PerInstr.lean ====
section
/-! SUPPORT. One lemma per instruction: its encoding is as long as its format says and is a well-formed byte string
(30_encoding R82, R83, R89). -/

namespace Sys2Proof.Laws

/-- The encoding of `i` is one whole instruction of the length of `i`. -/
def Encoding.Statement (i : Instr) : Prop := (encode i).length = i.length ∧ wellFormedBytes (encode i) = true

theorem Encoding.ldaImm (v : Byte) : Encoding.Statement (.ldaImm v) := ⟨rfl, rfl⟩
theorem Encoding.ldaZp (z : Byte) : Encoding.Statement (.ldaZp z) := ⟨rfl, rfl⟩
theorem Encoding.ldaZpx (z : Byte) : Encoding.Statement (.ldaZpx z) := ⟨rfl, rfl⟩
theorem Encoding.ldaAbs (b : Addr) : Encoding.Statement (.ldaAbs b) := ⟨rfl, rfl⟩
theorem Encoding.ldaAbsx (b : Addr) : Encoding.Statement (.ldaAbsx b) := ⟨rfl, rfl⟩
theorem Encoding.ldaAbsy (b : Addr) : Encoding.Statement (.ldaAbsy b) := ⟨rfl, rfl⟩
theorem Encoding.ldaIndx (z : Byte) : Encoding.Statement (.ldaIndx z) := ⟨rfl, rfl⟩
theorem Encoding.ldaIndy (z : Byte) : Encoding.Statement (.ldaIndy z) := ⟨rfl, rfl⟩
theorem Encoding.ldaZpind (z : Byte) : Encoding.Statement (.ldaZpind z) := ⟨rfl, rfl⟩
theorem Encoding.ldxImm (v : Byte) : Encoding.Statement (.ldxImm v) := ⟨rfl, rfl⟩
theorem Encoding.ldxZp (z : Byte) : Encoding.Statement (.ldxZp z) := ⟨rfl, rfl⟩
theorem Encoding.ldxZpy (z : Byte) : Encoding.Statement (.ldxZpy z) := ⟨rfl, rfl⟩
theorem Encoding.ldxAbs (b : Addr) : Encoding.Statement (.ldxAbs b) := ⟨rfl, rfl⟩
theorem Encoding.ldxAbsy (b : Addr) : Encoding.Statement (.ldxAbsy b) := ⟨rfl, rfl⟩
theorem Encoding.ldyImm (v : Byte) : Encoding.Statement (.ldyImm v) := ⟨rfl, rfl⟩
theorem Encoding.ldyZp (z : Byte) : Encoding.Statement (.ldyZp z) := ⟨rfl, rfl⟩
theorem Encoding.ldyZpx (z : Byte) : Encoding.Statement (.ldyZpx z) := ⟨rfl, rfl⟩
theorem Encoding.ldyAbs (b : Addr) : Encoding.Statement (.ldyAbs b) := ⟨rfl, rfl⟩
theorem Encoding.ldyAbsx (b : Addr) : Encoding.Statement (.ldyAbsx b) := ⟨rfl, rfl⟩
theorem Encoding.staZp (z : Byte) : Encoding.Statement (.staZp z) := ⟨rfl, rfl⟩
theorem Encoding.staZpx (z : Byte) : Encoding.Statement (.staZpx z) := ⟨rfl, rfl⟩
theorem Encoding.staAbs (b : Addr) : Encoding.Statement (.staAbs b) := ⟨rfl, rfl⟩
theorem Encoding.staAbsx (b : Addr) : Encoding.Statement (.staAbsx b) := ⟨rfl, rfl⟩
theorem Encoding.staAbsy (b : Addr) : Encoding.Statement (.staAbsy b) := ⟨rfl, rfl⟩
theorem Encoding.staIndx (z : Byte) : Encoding.Statement (.staIndx z) := ⟨rfl, rfl⟩
theorem Encoding.staIndy (z : Byte) : Encoding.Statement (.staIndy z) := ⟨rfl, rfl⟩
theorem Encoding.staZpind (z : Byte) : Encoding.Statement (.staZpind z) := ⟨rfl, rfl⟩
theorem Encoding.stxZp (z : Byte) : Encoding.Statement (.stxZp z) := ⟨rfl, rfl⟩
theorem Encoding.stxZpy (z : Byte) : Encoding.Statement (.stxZpy z) := ⟨rfl, rfl⟩
theorem Encoding.stxAbs (b : Addr) : Encoding.Statement (.stxAbs b) := ⟨rfl, rfl⟩
theorem Encoding.styZp (z : Byte) : Encoding.Statement (.styZp z) := ⟨rfl, rfl⟩
theorem Encoding.styZpx (z : Byte) : Encoding.Statement (.styZpx z) := ⟨rfl, rfl⟩
theorem Encoding.styAbs (b : Addr) : Encoding.Statement (.styAbs b) := ⟨rfl, rfl⟩
theorem Encoding.stzZp (z : Byte) : Encoding.Statement (.stzZp z) := ⟨rfl, rfl⟩
theorem Encoding.stzZpx (z : Byte) : Encoding.Statement (.stzZpx z) := ⟨rfl, rfl⟩
theorem Encoding.stzAbs (b : Addr) : Encoding.Statement (.stzAbs b) := ⟨rfl, rfl⟩
theorem Encoding.stzAbsx (b : Addr) : Encoding.Statement (.stzAbsx b) := ⟨rfl, rfl⟩
theorem Encoding.tax : Encoding.Statement (.tax) := ⟨rfl, rfl⟩
theorem Encoding.tay : Encoding.Statement (.tay) := ⟨rfl, rfl⟩
theorem Encoding.txa : Encoding.Statement (.txa) := ⟨rfl, rfl⟩
theorem Encoding.tya : Encoding.Statement (.tya) := ⟨rfl, rfl⟩
theorem Encoding.tsx : Encoding.Statement (.tsx) := ⟨rfl, rfl⟩
theorem Encoding.txs : Encoding.Statement (.txs) := ⟨rfl, rfl⟩
theorem Encoding.adcImm (v : Byte) : Encoding.Statement (.adcImm v) := ⟨rfl, rfl⟩
theorem Encoding.adcZp (z : Byte) : Encoding.Statement (.adcZp z) := ⟨rfl, rfl⟩
theorem Encoding.adcZpx (z : Byte) : Encoding.Statement (.adcZpx z) := ⟨rfl, rfl⟩
theorem Encoding.adcAbs (b : Addr) : Encoding.Statement (.adcAbs b) := ⟨rfl, rfl⟩
theorem Encoding.adcAbsx (b : Addr) : Encoding.Statement (.adcAbsx b) := ⟨rfl, rfl⟩
theorem Encoding.adcAbsy (b : Addr) : Encoding.Statement (.adcAbsy b) := ⟨rfl, rfl⟩
theorem Encoding.adcIndx (z : Byte) : Encoding.Statement (.adcIndx z) := ⟨rfl, rfl⟩
theorem Encoding.adcIndy (z : Byte) : Encoding.Statement (.adcIndy z) := ⟨rfl, rfl⟩
theorem Encoding.adcZpind (z : Byte) : Encoding.Statement (.adcZpind z) := ⟨rfl, rfl⟩
theorem Encoding.sbcImm (v : Byte) : Encoding.Statement (.sbcImm v) := ⟨rfl, rfl⟩
theorem Encoding.sbcZp (z : Byte) : Encoding.Statement (.sbcZp z) := ⟨rfl, rfl⟩
theorem Encoding.sbcZpx (z : Byte) : Encoding.Statement (.sbcZpx z) := ⟨rfl, rfl⟩
theorem Encoding.sbcAbs (b : Addr) : Encoding.Statement (.sbcAbs b) := ⟨rfl, rfl⟩
theorem Encoding.sbcAbsx (b : Addr) : Encoding.Statement (.sbcAbsx b) := ⟨rfl, rfl⟩
theorem Encoding.sbcAbsy (b : Addr) : Encoding.Statement (.sbcAbsy b) := ⟨rfl, rfl⟩
theorem Encoding.sbcIndx (z : Byte) : Encoding.Statement (.sbcIndx z) := ⟨rfl, rfl⟩
theorem Encoding.sbcIndy (z : Byte) : Encoding.Statement (.sbcIndy z) := ⟨rfl, rfl⟩
theorem Encoding.sbcZpind (z : Byte) : Encoding.Statement (.sbcZpind z) := ⟨rfl, rfl⟩
theorem Encoding.cmpImm (v : Byte) : Encoding.Statement (.cmpImm v) := ⟨rfl, rfl⟩
theorem Encoding.cmpZp (z : Byte) : Encoding.Statement (.cmpZp z) := ⟨rfl, rfl⟩
theorem Encoding.cmpZpx (z : Byte) : Encoding.Statement (.cmpZpx z) := ⟨rfl, rfl⟩
theorem Encoding.cmpAbs (b : Addr) : Encoding.Statement (.cmpAbs b) := ⟨rfl, rfl⟩
theorem Encoding.cmpAbsx (b : Addr) : Encoding.Statement (.cmpAbsx b) := ⟨rfl, rfl⟩
theorem Encoding.cmpAbsy (b : Addr) : Encoding.Statement (.cmpAbsy b) := ⟨rfl, rfl⟩
theorem Encoding.cmpIndx (z : Byte) : Encoding.Statement (.cmpIndx z) := ⟨rfl, rfl⟩
theorem Encoding.cmpIndy (z : Byte) : Encoding.Statement (.cmpIndy z) := ⟨rfl, rfl⟩
theorem Encoding.cmpZpind (z : Byte) : Encoding.Statement (.cmpZpind z) := ⟨rfl, rfl⟩
theorem Encoding.cpxImm (v : Byte) : Encoding.Statement (.cpxImm v) := ⟨rfl, rfl⟩
theorem Encoding.cpxZp (z : Byte) : Encoding.Statement (.cpxZp z) := ⟨rfl, rfl⟩
theorem Encoding.cpxAbs (b : Addr) : Encoding.Statement (.cpxAbs b) := ⟨rfl, rfl⟩
theorem Encoding.cpyImm (v : Byte) : Encoding.Statement (.cpyImm v) := ⟨rfl, rfl⟩
theorem Encoding.cpyZp (z : Byte) : Encoding.Statement (.cpyZp z) := ⟨rfl, rfl⟩
theorem Encoding.cpyAbs (b : Addr) : Encoding.Statement (.cpyAbs b) := ⟨rfl, rfl⟩
theorem Encoding.incAcc : Encoding.Statement (.incAcc) := ⟨rfl, rfl⟩
theorem Encoding.incZp (z : Byte) : Encoding.Statement (.incZp z) := ⟨rfl, rfl⟩
theorem Encoding.incZpx (z : Byte) : Encoding.Statement (.incZpx z) := ⟨rfl, rfl⟩
theorem Encoding.incAbs (b : Addr) : Encoding.Statement (.incAbs b) := ⟨rfl, rfl⟩
theorem Encoding.incAbsx (b : Addr) : Encoding.Statement (.incAbsx b) := ⟨rfl, rfl⟩
theorem Encoding.inx : Encoding.Statement (.inx) := ⟨rfl, rfl⟩
theorem Encoding.iny : Encoding.Statement (.iny) := ⟨rfl, rfl⟩
theorem Encoding.decAcc : Encoding.Statement (.decAcc) := ⟨rfl, rfl⟩
theorem Encoding.decZp (z : Byte) : Encoding.Statement (.decZp z) := ⟨rfl, rfl⟩
theorem Encoding.decZpx (z : Byte) : Encoding.Statement (.decZpx z) := ⟨rfl, rfl⟩
theorem Encoding.decAbs (b : Addr) : Encoding.Statement (.decAbs b) := ⟨rfl, rfl⟩
theorem Encoding.decAbsx (b : Addr) : Encoding.Statement (.decAbsx b) := ⟨rfl, rfl⟩
theorem Encoding.dex : Encoding.Statement (.dex) := ⟨rfl, rfl⟩
theorem Encoding.dey : Encoding.Statement (.dey) := ⟨rfl, rfl⟩
theorem Encoding.andImm (v : Byte) : Encoding.Statement (.andImm v) := ⟨rfl, rfl⟩
theorem Encoding.andZp (z : Byte) : Encoding.Statement (.andZp z) := ⟨rfl, rfl⟩
theorem Encoding.andZpx (z : Byte) : Encoding.Statement (.andZpx z) := ⟨rfl, rfl⟩
theorem Encoding.andAbs (b : Addr) : Encoding.Statement (.andAbs b) := ⟨rfl, rfl⟩
theorem Encoding.andAbsx (b : Addr) : Encoding.Statement (.andAbsx b) := ⟨rfl, rfl⟩
theorem Encoding.andAbsy (b : Addr) : Encoding.Statement (.andAbsy b) := ⟨rfl, rfl⟩
theorem Encoding.andIndx (z : Byte) : Encoding.Statement (.andIndx z) := ⟨rfl, rfl⟩
theorem Encoding.andIndy (z : Byte) : Encoding.Statement (.andIndy z) := ⟨rfl, rfl⟩
theorem Encoding.andZpind (z : Byte) : Encoding.Statement (.andZpind z) := ⟨rfl, rfl⟩
theorem Encoding.oraImm (v : Byte) : Encoding.Statement (.oraImm v) := ⟨rfl, rfl⟩
theorem Encoding.oraZp (z : Byte) : Encoding.Statement (.oraZp z) := ⟨rfl, rfl⟩
theorem Encoding.oraZpx (z : Byte) : Encoding.Statement (.oraZpx z) := ⟨rfl, rfl⟩
theorem Encoding.oraAbs (b : Addr) : Encoding.Statement (.oraAbs b) := ⟨rfl, rfl⟩
theorem Encoding.oraAbsx (b : Addr) : Encoding.Statement (.oraAbsx b) := ⟨rfl, rfl⟩
theorem Encoding.oraAbsy (b : Addr) : Encoding.Statement (.oraAbsy b) := ⟨rfl, rfl⟩
theorem Encoding.oraIndx (z : Byte) : Encoding.Statement (.oraIndx z) := ⟨rfl, rfl⟩
theorem Encoding.oraIndy (z : Byte) : Encoding.Statement (.oraIndy z) := ⟨rfl, rfl⟩
theorem Encoding.oraZpind (z : Byte) : Encoding.Statement (.oraZpind z) := ⟨rfl, rfl⟩
theorem Encoding.eorImm (v : Byte) : Encoding.Statement (.eorImm v) := ⟨rfl, rfl⟩
theorem Encoding.eorZp (z : Byte) : Encoding.Statement (.eorZp z) := ⟨rfl, rfl⟩
theorem Encoding.eorZpx (z : Byte) : Encoding.Statement (.eorZpx z) := ⟨rfl, rfl⟩
theorem Encoding.eorAbs (b : Addr) : Encoding.Statement (.eorAbs b) := ⟨rfl, rfl⟩
theorem Encoding.eorAbsx (b : Addr) : Encoding.Statement (.eorAbsx b) := ⟨rfl, rfl⟩
theorem Encoding.eorAbsy (b : Addr) : Encoding.Statement (.eorAbsy b) := ⟨rfl, rfl⟩
theorem Encoding.eorIndx (z : Byte) : Encoding.Statement (.eorIndx z) := ⟨rfl, rfl⟩
theorem Encoding.eorIndy (z : Byte) : Encoding.Statement (.eorIndy z) := ⟨rfl, rfl⟩
theorem Encoding.eorZpind (z : Byte) : Encoding.Statement (.eorZpind z) := ⟨rfl, rfl⟩
theorem Encoding.bitImm (v : Byte) : Encoding.Statement (.bitImm v) := ⟨rfl, rfl⟩
theorem Encoding.bitZp (z : Byte) : Encoding.Statement (.bitZp z) := ⟨rfl, rfl⟩
theorem Encoding.bitZpx (z : Byte) : Encoding.Statement (.bitZpx z) := ⟨rfl, rfl⟩
theorem Encoding.bitAbs (b : Addr) : Encoding.Statement (.bitAbs b) := ⟨rfl, rfl⟩
theorem Encoding.bitAbsx (b : Addr) : Encoding.Statement (.bitAbsx b) := ⟨rfl, rfl⟩
theorem Encoding.trbZp (z : Byte) : Encoding.Statement (.trbZp z) := ⟨rfl, rfl⟩
theorem Encoding.trbAbs (b : Addr) : Encoding.Statement (.trbAbs b) := ⟨rfl, rfl⟩
theorem Encoding.tsbZp (z : Byte) : Encoding.Statement (.tsbZp z) := ⟨rfl, rfl⟩
theorem Encoding.tsbAbs (b : Addr) : Encoding.Statement (.tsbAbs b) := ⟨rfl, rfl⟩
theorem Encoding.aslAcc : Encoding.Statement (.aslAcc) := ⟨rfl, rfl⟩
theorem Encoding.aslZp (z : Byte) : Encoding.Statement (.aslZp z) := ⟨rfl, rfl⟩
theorem Encoding.aslZpx (z : Byte) : Encoding.Statement (.aslZpx z) := ⟨rfl, rfl⟩
theorem Encoding.aslAbs (b : Addr) : Encoding.Statement (.aslAbs b) := ⟨rfl, rfl⟩
theorem Encoding.aslAbsx (b : Addr) : Encoding.Statement (.aslAbsx b) := ⟨rfl, rfl⟩
theorem Encoding.lsrAcc : Encoding.Statement (.lsrAcc) := ⟨rfl, rfl⟩
theorem Encoding.lsrZp (z : Byte) : Encoding.Statement (.lsrZp z) := ⟨rfl, rfl⟩
theorem Encoding.lsrZpx (z : Byte) : Encoding.Statement (.lsrZpx z) := ⟨rfl, rfl⟩
theorem Encoding.lsrAbs (b : Addr) : Encoding.Statement (.lsrAbs b) := ⟨rfl, rfl⟩
theorem Encoding.lsrAbsx (b : Addr) : Encoding.Statement (.lsrAbsx b) := ⟨rfl, rfl⟩
theorem Encoding.rolAcc : Encoding.Statement (.rolAcc) := ⟨rfl, rfl⟩
theorem Encoding.rolZp (z : Byte) : Encoding.Statement (.rolZp z) := ⟨rfl, rfl⟩
theorem Encoding.rolZpx (z : Byte) : Encoding.Statement (.rolZpx z) := ⟨rfl, rfl⟩
theorem Encoding.rolAbs (b : Addr) : Encoding.Statement (.rolAbs b) := ⟨rfl, rfl⟩
theorem Encoding.rolAbsx (b : Addr) : Encoding.Statement (.rolAbsx b) := ⟨rfl, rfl⟩
theorem Encoding.rorAcc : Encoding.Statement (.rorAcc) := ⟨rfl, rfl⟩
theorem Encoding.rorZp (z : Byte) : Encoding.Statement (.rorZp z) := ⟨rfl, rfl⟩
theorem Encoding.rorZpx (z : Byte) : Encoding.Statement (.rorZpx z) := ⟨rfl, rfl⟩
theorem Encoding.rorAbs (b : Addr) : Encoding.Statement (.rorAbs b) := ⟨rfl, rfl⟩
theorem Encoding.rorAbsx (b : Addr) : Encoding.Statement (.rorAbsx b) := ⟨rfl, rfl⟩
theorem Encoding.bcc (off : Byte) : Encoding.Statement (.bcc off) := ⟨rfl, rfl⟩
theorem Encoding.bcs (off : Byte) : Encoding.Statement (.bcs off) := ⟨rfl, rfl⟩
theorem Encoding.beq (off : Byte) : Encoding.Statement (.beq off) := ⟨rfl, rfl⟩
theorem Encoding.bne (off : Byte) : Encoding.Statement (.bne off) := ⟨rfl, rfl⟩
theorem Encoding.bmi (off : Byte) : Encoding.Statement (.bmi off) := ⟨rfl, rfl⟩
theorem Encoding.bpl (off : Byte) : Encoding.Statement (.bpl off) := ⟨rfl, rfl⟩
theorem Encoding.bvc (off : Byte) : Encoding.Statement (.bvc off) := ⟨rfl, rfl⟩
theorem Encoding.bvs (off : Byte) : Encoding.Statement (.bvs off) := ⟨rfl, rfl⟩
theorem Encoding.bra (off : Byte) : Encoding.Statement (.bra off) := ⟨rfl, rfl⟩
theorem Encoding.jmpAbs (b : Addr) : Encoding.Statement (.jmpAbs b) := ⟨rfl, rfl⟩
theorem Encoding.jmpAbsind (b : Addr) : Encoding.Statement (.jmpAbsind b) := ⟨rfl, rfl⟩
theorem Encoding.jmpAbsxind (b : Addr) : Encoding.Statement (.jmpAbsxind b) := ⟨rfl, rfl⟩
theorem Encoding.jsr (b : Addr) : Encoding.Statement (.jsr b) := ⟨rfl, rfl⟩
theorem Encoding.rts : Encoding.Statement (.rts) := ⟨rfl, rfl⟩
theorem Encoding.rti : Encoding.Statement (.rti) := ⟨rfl, rfl⟩
theorem Encoding.pha : Encoding.Statement (.pha) := ⟨rfl, rfl⟩
theorem Encoding.pla : Encoding.Statement (.pla) := ⟨rfl, rfl⟩
theorem Encoding.php : Encoding.Statement (.php) := ⟨rfl, rfl⟩
theorem Encoding.plp : Encoding.Statement (.plp) := ⟨rfl, rfl⟩
theorem Encoding.phx : Encoding.Statement (.phx) := ⟨rfl, rfl⟩
theorem Encoding.plx : Encoding.Statement (.plx) := ⟨rfl, rfl⟩
theorem Encoding.phy : Encoding.Statement (.phy) := ⟨rfl, rfl⟩
theorem Encoding.ply : Encoding.Statement (.ply) := ⟨rfl, rfl⟩
theorem Encoding.clc : Encoding.Statement (.clc) := ⟨rfl, rfl⟩
theorem Encoding.cld : Encoding.Statement (.cld) := ⟨rfl, rfl⟩
theorem Encoding.cli : Encoding.Statement (.cli) := ⟨rfl, rfl⟩
theorem Encoding.clv : Encoding.Statement (.clv) := ⟨rfl, rfl⟩
theorem Encoding.sec : Encoding.Statement (.sec) := ⟨rfl, rfl⟩
theorem Encoding.sed : Encoding.Statement (.sed) := ⟨rfl, rfl⟩
theorem Encoding.sei : Encoding.Statement (.sei) := ⟨rfl, rfl⟩
theorem Encoding.brk (sig : Byte) : Encoding.Statement (.brk sig) := ⟨rfl, rfl⟩
theorem Encoding.nop : Encoding.Statement (.nop) := ⟨rfl, rfl⟩
theorem Encoding.wai : Encoding.Statement (.wai) := ⟨rfl, rfl⟩
theorem Encoding.stp : Encoding.Statement (.stp) := ⟨rfl, rfl⟩
theorem Encoding.rsv02 (pad : Byte) : Encoding.Statement (.rsv02 pad) := ⟨rfl, rfl⟩
theorem Encoding.rsv22 (pad : Byte) : Encoding.Statement (.rsv22 pad) := ⟨rfl, rfl⟩
theorem Encoding.rsv42 (pad : Byte) : Encoding.Statement (.rsv42 pad) := ⟨rfl, rfl⟩
theorem Encoding.rsv44 (pad : Byte) : Encoding.Statement (.rsv44 pad) := ⟨rfl, rfl⟩
theorem Encoding.rsv54 (pad : Byte) : Encoding.Statement (.rsv54 pad) := ⟨rfl, rfl⟩
theorem Encoding.rsv5C (pad : Byte) (pad2 : Byte) : Encoding.Statement (.rsv5C pad pad2) := ⟨rfl, rfl⟩
theorem Encoding.rsv62 (pad : Byte) : Encoding.Statement (.rsv62 pad) := ⟨rfl, rfl⟩
theorem Encoding.rsv82 (pad : Byte) : Encoding.Statement (.rsv82 pad) := ⟨rfl, rfl⟩
theorem Encoding.rsvC2 (pad : Byte) : Encoding.Statement (.rsvC2 pad) := ⟨rfl, rfl⟩
theorem Encoding.rsvD4 (pad : Byte) : Encoding.Statement (.rsvD4 pad) := ⟨rfl, rfl⟩
theorem Encoding.rsvDC (pad : Byte) (pad2 : Byte) : Encoding.Statement (.rsvDC pad pad2) := ⟨rfl, rfl⟩
theorem Encoding.rsvE2 (pad : Byte) : Encoding.Statement (.rsvE2 pad) := ⟨rfl, rfl⟩
theorem Encoding.rsvF4 (pad : Byte) : Encoding.Statement (.rsvF4 pad) := ⟨rfl, rfl⟩
theorem Encoding.rsvFC (pad : Byte) (pad2 : Byte) : Encoding.Statement (.rsvFC pad pad2) := ⟨rfl, rfl⟩
theorem Encoding.rsv03 : Encoding.Statement (.rsv03) := ⟨rfl, rfl⟩
theorem Encoding.rsv07 : Encoding.Statement (.rsv07) := ⟨rfl, rfl⟩
theorem Encoding.rsv0B : Encoding.Statement (.rsv0B) := ⟨rfl, rfl⟩
theorem Encoding.rsv0F : Encoding.Statement (.rsv0F) := ⟨rfl, rfl⟩
theorem Encoding.rsv13 : Encoding.Statement (.rsv13) := ⟨rfl, rfl⟩
theorem Encoding.rsv17 : Encoding.Statement (.rsv17) := ⟨rfl, rfl⟩
theorem Encoding.rsv1B : Encoding.Statement (.rsv1B) := ⟨rfl, rfl⟩
theorem Encoding.rsv1F : Encoding.Statement (.rsv1F) := ⟨rfl, rfl⟩
theorem Encoding.rsv23 : Encoding.Statement (.rsv23) := ⟨rfl, rfl⟩
theorem Encoding.rsv27 : Encoding.Statement (.rsv27) := ⟨rfl, rfl⟩
theorem Encoding.rsv2B : Encoding.Statement (.rsv2B) := ⟨rfl, rfl⟩
theorem Encoding.rsv2F : Encoding.Statement (.rsv2F) := ⟨rfl, rfl⟩
theorem Encoding.rsv33 : Encoding.Statement (.rsv33) := ⟨rfl, rfl⟩
theorem Encoding.rsv37 : Encoding.Statement (.rsv37) := ⟨rfl, rfl⟩
theorem Encoding.rsv3B : Encoding.Statement (.rsv3B) := ⟨rfl, rfl⟩
theorem Encoding.rsv3F : Encoding.Statement (.rsv3F) := ⟨rfl, rfl⟩
theorem Encoding.rsv43 : Encoding.Statement (.rsv43) := ⟨rfl, rfl⟩
theorem Encoding.rsv47 : Encoding.Statement (.rsv47) := ⟨rfl, rfl⟩
theorem Encoding.rsv4B : Encoding.Statement (.rsv4B) := ⟨rfl, rfl⟩
theorem Encoding.rsv4F : Encoding.Statement (.rsv4F) := ⟨rfl, rfl⟩
theorem Encoding.rsv53 : Encoding.Statement (.rsv53) := ⟨rfl, rfl⟩
theorem Encoding.rsv57 : Encoding.Statement (.rsv57) := ⟨rfl, rfl⟩
theorem Encoding.rsv5B : Encoding.Statement (.rsv5B) := ⟨rfl, rfl⟩
theorem Encoding.rsv5F : Encoding.Statement (.rsv5F) := ⟨rfl, rfl⟩
theorem Encoding.rsv63 : Encoding.Statement (.rsv63) := ⟨rfl, rfl⟩
theorem Encoding.rsv67 : Encoding.Statement (.rsv67) := ⟨rfl, rfl⟩
theorem Encoding.rsv6B : Encoding.Statement (.rsv6B) := ⟨rfl, rfl⟩
theorem Encoding.rsv6F : Encoding.Statement (.rsv6F) := ⟨rfl, rfl⟩
theorem Encoding.rsv73 : Encoding.Statement (.rsv73) := ⟨rfl, rfl⟩
theorem Encoding.rsv77 : Encoding.Statement (.rsv77) := ⟨rfl, rfl⟩
theorem Encoding.rsv7B : Encoding.Statement (.rsv7B) := ⟨rfl, rfl⟩
theorem Encoding.rsv7F : Encoding.Statement (.rsv7F) := ⟨rfl, rfl⟩
theorem Encoding.rsv83 : Encoding.Statement (.rsv83) := ⟨rfl, rfl⟩
theorem Encoding.rsv87 : Encoding.Statement (.rsv87) := ⟨rfl, rfl⟩
theorem Encoding.rsv8B : Encoding.Statement (.rsv8B) := ⟨rfl, rfl⟩
theorem Encoding.rsv8F : Encoding.Statement (.rsv8F) := ⟨rfl, rfl⟩
theorem Encoding.rsv93 : Encoding.Statement (.rsv93) := ⟨rfl, rfl⟩
theorem Encoding.rsv97 : Encoding.Statement (.rsv97) := ⟨rfl, rfl⟩
theorem Encoding.rsv9B : Encoding.Statement (.rsv9B) := ⟨rfl, rfl⟩
theorem Encoding.rsv9F : Encoding.Statement (.rsv9F) := ⟨rfl, rfl⟩
theorem Encoding.rsvA3 : Encoding.Statement (.rsvA3) := ⟨rfl, rfl⟩
theorem Encoding.rsvA7 : Encoding.Statement (.rsvA7) := ⟨rfl, rfl⟩
theorem Encoding.rsvAB : Encoding.Statement (.rsvAB) := ⟨rfl, rfl⟩
theorem Encoding.rsvAF : Encoding.Statement (.rsvAF) := ⟨rfl, rfl⟩
theorem Encoding.rsvB3 : Encoding.Statement (.rsvB3) := ⟨rfl, rfl⟩
theorem Encoding.rsvB7 : Encoding.Statement (.rsvB7) := ⟨rfl, rfl⟩
theorem Encoding.rsvBB : Encoding.Statement (.rsvBB) := ⟨rfl, rfl⟩
theorem Encoding.rsvBF : Encoding.Statement (.rsvBF) := ⟨rfl, rfl⟩
theorem Encoding.rsvC3 : Encoding.Statement (.rsvC3) := ⟨rfl, rfl⟩
theorem Encoding.rsvC7 : Encoding.Statement (.rsvC7) := ⟨rfl, rfl⟩
theorem Encoding.rsvCF : Encoding.Statement (.rsvCF) := ⟨rfl, rfl⟩
theorem Encoding.rsvD3 : Encoding.Statement (.rsvD3) := ⟨rfl, rfl⟩
theorem Encoding.rsvD7 : Encoding.Statement (.rsvD7) := ⟨rfl, rfl⟩
theorem Encoding.rsvDF : Encoding.Statement (.rsvDF) := ⟨rfl, rfl⟩
theorem Encoding.rsvE3 : Encoding.Statement (.rsvE3) := ⟨rfl, rfl⟩
theorem Encoding.rsvE7 : Encoding.Statement (.rsvE7) := ⟨rfl, rfl⟩
theorem Encoding.rsvEB : Encoding.Statement (.rsvEB) := ⟨rfl, rfl⟩
theorem Encoding.rsvEF : Encoding.Statement (.rsvEF) := ⟨rfl, rfl⟩
theorem Encoding.rsvF3 : Encoding.Statement (.rsvF3) := ⟨rfl, rfl⟩
theorem Encoding.rsvF7 : Encoding.Statement (.rsvF7) := ⟨rfl, rfl⟩
theorem Encoding.rsvFB : Encoding.Statement (.rsvFB) := ⟨rfl, rfl⟩
theorem Encoding.rsvFF : Encoding.Statement (.rsvFF) := ⟨rfl, rfl⟩

end Sys2Proof.Laws
end

