-- ==== Sys2Proof/Machine/Assembly.lean ====
section
/-! DEFINITION. The assembler text of an instruction, as far as 30_encoding R90 fixes it: three letters, then at most one
operand. The reserved opcodes have no mnemonic (49_system), so they have no text. -/

namespace Sys2Proof.Machine

/-- The three letters of a mnemonic (30 R90). None for the reserved opcodes. -/
def mnemonicText : Op → Option String
  | .lda => some "LDA"
  | .ldx => some "LDX"
  | .ldy => some "LDY"
  | .sta => some "STA"
  | .stx => some "STX"
  | .sty => some "STY"
  | .stz => some "STZ"
  | .tax => some "TAX"
  | .tay => some "TAY"
  | .txa => some "TXA"
  | .tya => some "TYA"
  | .tsx => some "TSX"
  | .txs => some "TXS"
  | .adc => some "ADC"
  | .sbc => some "SBC"
  | .cmp => some "CMP"
  | .cpx => some "CPX"
  | .cpy => some "CPY"
  | .inc => some "INC"
  | .inx => some "INX"
  | .iny => some "INY"
  | .dec => some "DEC"
  | .dex => some "DEX"
  | .dey => some "DEY"
  | .and => some "AND"
  | .ora => some "ORA"
  | .eor => some "EOR"
  | .bit => some "BIT"
  | .trb => some "TRB"
  | .tsb => some "TSB"
  | .asl => some "ASL"
  | .lsr => some "LSR"
  | .rol => some "ROL"
  | .ror => some "ROR"
  | .bcc => some "BCC"
  | .bcs => some "BCS"
  | .beq => some "BEQ"
  | .bne => some "BNE"
  | .bmi => some "BMI"
  | .bpl => some "BPL"
  | .bvc => some "BVC"
  | .bvs => some "BVS"
  | .bra => some "BRA"
  | .jmp => some "JMP"
  | .jsr => some "JSR"
  | .rts => some "RTS"
  | .rti => some "RTI"
  | .pha => some "PHA"
  | .pla => some "PLA"
  | .php => some "PHP"
  | .plp => some "PLP"
  | .phx => some "PHX"
  | .plx => some "PLX"
  | .phy => some "PHY"
  | .ply => some "PLY"
  | .clc => some "CLC"
  | .cld => some "CLD"
  | .cli => some "CLI"
  | .clv => some "CLV"
  | .sec => some "SEC"
  | .sed => some "SED"
  | .sei => some "SEI"
  | .brk => some "BRK"
  | .nop => some "NOP"
  | .wai => some "WAI"
  | .stp => some "STP"
  | .reserved => none

/-- One hexadecimal digit. -/
def hexDigit (n : Nat) : Char := "0123456789ABCDEF".toList.getD (n % 16) '0'

/-- `$nn`. -/
def hexByte (v : Byte) : List Char := ['$', hexDigit (v.toNat / 16), hexDigit v.toNat]

/-- `$nnnn`. -/
def hexAddr (a : Addr) : List Char :=
  ['$', hexDigit (a.toNat / 4096), hexDigit (a.toNat / 256), hexDigit (a.toNat / 16), hexDigit a.toNat]

/-- The operand as it is written, with a space before it, of a format and the two bytes after the opcode at `pc`
(30 R83, R90). A branch is written with its target. BRK is written alone. -/
def operandText (f : Format) (b1 b2 : Byte) (pc : Addr) : List Char :=
  let a := mkAddr b2 b1
  match f with
  | .imp | .brk | .nop1 | .nop2 | .nop3 => []
  | .acc => [' ', 'A']
  | .imm => [' ', '#'] ++ hexByte b1
  | .zp => [' '] ++ hexByte b1
  | .zpx => [' '] ++ hexByte b1 ++ [',', 'X']
  | .zpy => [' '] ++ hexByte b1 ++ [',', 'Y']
  | .abs => [' '] ++ hexAddr a
  | .absx => [' '] ++ hexAddr a ++ [',', 'X']
  | .absy => [' '] ++ hexAddr a ++ [',', 'Y']
  | .indx => [' ', '('] ++ hexByte b1 ++ [',', 'X', ')']
  | .indy => [' ', '('] ++ hexByte b1 ++ [')', ',', 'Y']
  | .zpind => [' ', '('] ++ hexByte b1 ++ [')']
  | .rel => [' '] ++ hexAddr (pc + 2 + sext b1)
  | .absind => [' ', '('] ++ hexAddr a ++ [')']
  | .absxind => [' ', '('] ++ hexAddr a ++ [',', 'X', ')']

/-- The assembler text of an instruction at the address `pc` (30 R90). -/
def assemblyText (i : Instr) (pc : Addr) : Option (List Char) :=
  (mnemonicText i.op).map (fun m => m.toList ++ operandText i.format ((encode i).getD 1 0) ((encode i).getD 2 0) pc)

end Sys2Proof.Machine
end

