-- ==== Sys2Proof/Tests/Slice0.lean ====
section
/-! SUPPORT. Tests. The expected results are those of the spec: its encoding tables, its test vectors (spec/95) and its cycle
tables. The `witness_` theorems show states and operands that meet the hypotheses of the statements together. -/

namespace Sys2Proof.Tests

open Machine Stmt

/-! The well-formedness check refuses each ill-formed byte string. -/

theorem test_wellFormed_refuses_no_bytes : wellFormedBytes [] = false := by decide
theorem test_wellFormed_refuses_missing_operand : wellFormedBytes [0xAD, 0x00] = false := by decide
theorem test_wellFormed_refuses_byte_too_many : wellFormedBytes [0xEA, 0xEA] = false := by decide
theorem test_wellFormed_refuses_brk_without_signature : wellFormedBytes [0x00] = false := by decide
theorem test_wellFormed_accepts : wellFormedBytes [0xAD, 0x00, 0x44] = true := by decide

/-! Decoding. Every constructor, from its opcode as the spec's tables write it. -/

/-- The bytes decode to the instruction and none is left over. -/
def decodesTo (bytes : List Byte) (i : Instr) : Bool :=
  match decode bytes with
  | .ok (j, []) => decide (j = i)
  | _ => false

/-- Each byte string decodes to its instruction. -/
def decodesAll (l : List (List Byte × Instr)) : Bool := l.all fun p => decodesTo p.1 p.2

theorem test_decode_refuses_no_bytes : (match decode [] with | .error e => decide (e = .noBytes) | .ok _ => false) = true := by
  decide
theorem test_decode_refuses_truncated :
    (match decode [0x4C, 0x34] with | .error e => decide (e = .truncated 0x4C) | .ok _ => false) = true := by decide
theorem test_decodeTableWord : decodeTableWord 24 0x1234AD = some (.ldaAbs 0x1234) := by decide

/-- 40 R119: LDA, LDX, LDY, STA, STX, STY, STZ. -/
theorem test_decode_load_store : decodesAll [
    ([0xA9, 0x34], .ldaImm 0x34), ([0xA5, 0x34], .ldaZp 0x34), ([0xB5, 0x34], .ldaZpx 0x34),
    ([0xAD, 0x34, 0x12], .ldaAbs 0x1234), ([0xBD, 0x34, 0x12], .ldaAbsx 0x1234),
    ([0xB9, 0x34, 0x12], .ldaAbsy 0x1234), ([0xA1, 0x34], .ldaIndx 0x34), ([0xB1, 0x34], .ldaIndy 0x34),
    ([0xB2, 0x34], .ldaZpind 0x34), ([0xA2, 0x34], .ldxImm 0x34), ([0xA6, 0x34], .ldxZp 0x34),
    ([0xB6, 0x34], .ldxZpy 0x34), ([0xAE, 0x34, 0x12], .ldxAbs 0x1234), ([0xBE, 0x34, 0x12], .ldxAbsy 0x1234),
    ([0xA0, 0x34], .ldyImm 0x34), ([0xA4, 0x34], .ldyZp 0x34), ([0xB4, 0x34], .ldyZpx 0x34),
    ([0xAC, 0x34, 0x12], .ldyAbs 0x1234), ([0xBC, 0x34, 0x12], .ldyAbsx 0x1234), ([0x85, 0x34], .staZp 0x34),
    ([0x95, 0x34], .staZpx 0x34), ([0x8D, 0x34, 0x12], .staAbs 0x1234), ([0x9D, 0x34, 0x12], .staAbsx 0x1234),
    ([0x99, 0x34, 0x12], .staAbsy 0x1234), ([0x81, 0x34], .staIndx 0x34), ([0x91, 0x34], .staIndy 0x34),
    ([0x92, 0x34], .staZpind 0x34), ([0x86, 0x34], .stxZp 0x34), ([0x96, 0x34], .stxZpy 0x34),
    ([0x8E, 0x34, 0x12], .stxAbs 0x1234), ([0x84, 0x34], .styZp 0x34), ([0x94, 0x34], .styZpx 0x34),
    ([0x8C, 0x34, 0x12], .styAbs 0x1234), ([0x64, 0x34], .stzZp 0x34), ([0x74, 0x34], .stzZpx 0x34),
    ([0x9C, 0x34, 0x12], .stzAbs 0x1234), ([0x9E, 0x34, 0x12], .stzAbsx 0x1234)] = true := by
  decide

/-- 40 R119: TAX, TAY, TXA, TYA, TSX, TXS. -/
theorem test_decode_transfer : decodesAll [
    ([0xAA], .tax), ([0xA8], .tay), ([0x8A], .txa), ([0x98], .tya), ([0xBA], .tsx), ([0x9A], .txs)] = true := by
  decide

/-- 40 R119: ADC, SBC, CMP. -/
theorem test_decode_arithmetic_1 : decodesAll [
    ([0x69, 0x34], .adcImm 0x34), ([0x65, 0x34], .adcZp 0x34), ([0x75, 0x34], .adcZpx 0x34),
    ([0x6D, 0x34, 0x12], .adcAbs 0x1234), ([0x7D, 0x34, 0x12], .adcAbsx 0x1234),
    ([0x79, 0x34, 0x12], .adcAbsy 0x1234), ([0x61, 0x34], .adcIndx 0x34), ([0x71, 0x34], .adcIndy 0x34),
    ([0x72, 0x34], .adcZpind 0x34), ([0xE9, 0x34], .sbcImm 0x34), ([0xE5, 0x34], .sbcZp 0x34),
    ([0xF5, 0x34], .sbcZpx 0x34), ([0xED, 0x34, 0x12], .sbcAbs 0x1234), ([0xFD, 0x34, 0x12], .sbcAbsx 0x1234),
    ([0xF9, 0x34, 0x12], .sbcAbsy 0x1234), ([0xE1, 0x34], .sbcIndx 0x34), ([0xF1, 0x34], .sbcIndy 0x34),
    ([0xF2, 0x34], .sbcZpind 0x34), ([0xC9, 0x34], .cmpImm 0x34), ([0xC5, 0x34], .cmpZp 0x34),
    ([0xD5, 0x34], .cmpZpx 0x34), ([0xCD, 0x34, 0x12], .cmpAbs 0x1234), ([0xDD, 0x34, 0x12], .cmpAbsx 0x1234),
    ([0xD9, 0x34, 0x12], .cmpAbsy 0x1234), ([0xC1, 0x34], .cmpIndx 0x34), ([0xD1, 0x34], .cmpIndy 0x34),
    ([0xD2, 0x34], .cmpZpind 0x34)] = true := by
  decide

/-- 40 R119: CPX, CPY, INC, INX, INY, DEC, DEX, DEY. -/
theorem test_decode_arithmetic_2 : decodesAll [
    ([0xE0, 0x34], .cpxImm 0x34), ([0xE4, 0x34], .cpxZp 0x34), ([0xEC, 0x34, 0x12], .cpxAbs 0x1234),
    ([0xC0, 0x34], .cpyImm 0x34), ([0xC4, 0x34], .cpyZp 0x34), ([0xCC, 0x34, 0x12], .cpyAbs 0x1234),
    ([0x1A], .incAcc), ([0xE6, 0x34], .incZp 0x34), ([0xF6, 0x34], .incZpx 0x34),
    ([0xEE, 0x34, 0x12], .incAbs 0x1234), ([0xFE, 0x34, 0x12], .incAbsx 0x1234), ([0xE8], .inx), ([0xC8], .iny),
    ([0x3A], .decAcc), ([0xC6, 0x34], .decZp 0x34), ([0xD6, 0x34], .decZpx 0x34),
    ([0xCE, 0x34, 0x12], .decAbs 0x1234), ([0xDE, 0x34, 0x12], .decAbsx 0x1234), ([0xCA], .dex), ([0x88], .dey)] = true := by
  decide

/-- 40 R119: AND, ORA, EOR. -/
theorem test_decode_logic_1 : decodesAll [
    ([0x29, 0x34], .andImm 0x34), ([0x25, 0x34], .andZp 0x34), ([0x35, 0x34], .andZpx 0x34),
    ([0x2D, 0x34, 0x12], .andAbs 0x1234), ([0x3D, 0x34, 0x12], .andAbsx 0x1234),
    ([0x39, 0x34, 0x12], .andAbsy 0x1234), ([0x21, 0x34], .andIndx 0x34), ([0x31, 0x34], .andIndy 0x34),
    ([0x32, 0x34], .andZpind 0x34), ([0x09, 0x34], .oraImm 0x34), ([0x05, 0x34], .oraZp 0x34),
    ([0x15, 0x34], .oraZpx 0x34), ([0x0D, 0x34, 0x12], .oraAbs 0x1234), ([0x1D, 0x34, 0x12], .oraAbsx 0x1234),
    ([0x19, 0x34, 0x12], .oraAbsy 0x1234), ([0x01, 0x34], .oraIndx 0x34), ([0x11, 0x34], .oraIndy 0x34),
    ([0x12, 0x34], .oraZpind 0x34), ([0x49, 0x34], .eorImm 0x34), ([0x45, 0x34], .eorZp 0x34),
    ([0x55, 0x34], .eorZpx 0x34), ([0x4D, 0x34, 0x12], .eorAbs 0x1234), ([0x5D, 0x34, 0x12], .eorAbsx 0x1234),
    ([0x59, 0x34, 0x12], .eorAbsy 0x1234), ([0x41, 0x34], .eorIndx 0x34), ([0x51, 0x34], .eorIndy 0x34),
    ([0x52, 0x34], .eorZpind 0x34)] = true := by
  decide

/-- 40 R119: BIT, TRB, TSB. -/
theorem test_decode_logic_2 : decodesAll [
    ([0x89, 0x34], .bitImm 0x34), ([0x24, 0x34], .bitZp 0x34), ([0x34, 0x34], .bitZpx 0x34),
    ([0x2C, 0x34, 0x12], .bitAbs 0x1234), ([0x3C, 0x34, 0x12], .bitAbsx 0x1234), ([0x14, 0x34], .trbZp 0x34),
    ([0x1C, 0x34, 0x12], .trbAbs 0x1234), ([0x04, 0x34], .tsbZp 0x34), ([0x0C, 0x34, 0x12], .tsbAbs 0x1234)] = true := by
  decide

/-- 40 R119: ASL, LSR, ROL, ROR. -/
theorem test_decode_shift : decodesAll [
    ([0x0A], .aslAcc), ([0x06, 0x34], .aslZp 0x34), ([0x16, 0x34], .aslZpx 0x34),
    ([0x0E, 0x34, 0x12], .aslAbs 0x1234), ([0x1E, 0x34, 0x12], .aslAbsx 0x1234), ([0x4A], .lsrAcc),
    ([0x46, 0x34], .lsrZp 0x34), ([0x56, 0x34], .lsrZpx 0x34), ([0x4E, 0x34, 0x12], .lsrAbs 0x1234),
    ([0x5E, 0x34, 0x12], .lsrAbsx 0x1234), ([0x2A], .rolAcc), ([0x26, 0x34], .rolZp 0x34),
    ([0x36, 0x34], .rolZpx 0x34), ([0x2E, 0x34, 0x12], .rolAbs 0x1234), ([0x3E, 0x34, 0x12], .rolAbsx 0x1234),
    ([0x6A], .rorAcc), ([0x66, 0x34], .rorZp 0x34), ([0x76, 0x34], .rorZpx 0x34),
    ([0x6E, 0x34, 0x12], .rorAbs 0x1234), ([0x7E, 0x34, 0x12], .rorAbsx 0x1234)] = true := by
  decide

/-- 40 R119: BCC, BCS, BEQ, BNE, BMI, BPL, BVC, BVS, BRA. -/
theorem test_decode_branch : decodesAll [
    ([0x90, 0x34], .bcc 0x34), ([0xB0, 0x34], .bcs 0x34), ([0xF0, 0x34], .beq 0x34), ([0xD0, 0x34], .bne 0x34),
    ([0x30, 0x34], .bmi 0x34), ([0x10, 0x34], .bpl 0x34), ([0x50, 0x34], .bvc 0x34), ([0x70, 0x34], .bvs 0x34),
    ([0x80, 0x34], .bra 0x34)] = true := by
  decide

/-- 40 R119: JMP, JSR, RTS, RTI. -/
theorem test_decode_jump : decodesAll [
    ([0x4C, 0x34, 0x12], .jmpAbs 0x1234), ([0x6C, 0x34, 0x12], .jmpAbsind 0x1234),
    ([0x7C, 0x34, 0x12], .jmpAbsxind 0x1234), ([0x20, 0x34, 0x12], .jsr 0x1234), ([0x60], .rts), ([0x40], .rti)] = true := by
  decide

/-- 40 R119: PHA, PLA, PHP, PLP, PHX, PLX, PHY, PLY. -/
theorem test_decode_stack : decodesAll [
    ([0x48], .pha), ([0x68], .pla), ([0x08], .php), ([0x28], .plp), ([0xDA], .phx), ([0xFA], .plx), ([0x5A], .phy),
    ([0x7A], .ply)] = true := by
  decide

/-- 40 R119: CLC, CLD, CLI, CLV, SEC, SED, SEI. -/
theorem test_decode_status_flags : decodesAll [
    ([0x18], .clc), ([0xD8], .cld), ([0x58], .cli), ([0xB8], .clv), ([0x38], .sec), ([0xF8], .sed), ([0x78], .sei)] = true := by
  decide

/-- 40 R119: BRK, NOP, WAI, STP. -/
theorem test_decode_system : decodesAll [
    ([0x00, 0x34], .brk 0x34), ([0xEA], .nop), ([0xCB], .wai), ([0xDB], .stp)] = true := by
  decide

/-- 49 R244 and R250: one byte. Column F by the spec's decision D7 (log entry 8). -/
theorem test_decode_reserved_1 : decodesAll [
    ([0x03], .rsv03), ([0x07], .rsv07), ([0x0B], .rsv0B), ([0x13], .rsv13), ([0x17], .rsv17), ([0x1B], .rsv1B),
    ([0x23], .rsv23), ([0x27], .rsv27), ([0x2B], .rsv2B), ([0x33], .rsv33), ([0x37], .rsv37), ([0x3B], .rsv3B),
    ([0x43], .rsv43), ([0x47], .rsv47), ([0x4B], .rsv4B), ([0x53], .rsv53), ([0x57], .rsv57), ([0x5B], .rsv5B),
    ([0x63], .rsv63), ([0x67], .rsv67), ([0x6B], .rsv6B), ([0x73], .rsv73), ([0x77], .rsv77), ([0x7B], .rsv7B),
    ([0x83], .rsv83), ([0x87], .rsv87), ([0x8B], .rsv8B), ([0x93], .rsv93), ([0x97], .rsv97), ([0x9B], .rsv9B),
    ([0xA3], .rsvA3), ([0xA7], .rsvA7), ([0xAB], .rsvAB), ([0xB3], .rsvB3), ([0xB7], .rsvB7), ([0xBB], .rsvBB),
    ([0xC3], .rsvC3), ([0xC7], .rsvC7), ([0xD3], .rsvD3), ([0xD7], .rsvD7), ([0xE3], .rsvE3), ([0xE7], .rsvE7),
    ([0xEB], .rsvEB), ([0xF3], .rsvF3), ([0xF7], .rsvF7), ([0xFB], .rsvFB), ([0x0F], .rsv0F), ([0x1F], .rsv1F),
    ([0x2F], .rsv2F), ([0x3F], .rsv3F), ([0x4F], .rsv4F), ([0x5F], .rsv5F), ([0x6F], .rsv6F), ([0x7F], .rsv7F),
    ([0x8F], .rsv8F), ([0x9F], .rsv9F), ([0xAF], .rsvAF), ([0xBF], .rsvBF), ([0xCF], .rsvCF), ([0xDF], .rsvDF),
    ([0xEF], .rsvEF), ([0xFF], .rsvFF)] = true := by
  decide

/-- 49 R245 to R249: two bytes, three bytes. -/
theorem test_decode_reserved_2 : decodesAll [
    ([0x02, 0x34], .rsv02 0x34), ([0x22, 0x34], .rsv22 0x34), ([0x42, 0x34], .rsv42 0x34),
    ([0x62, 0x34], .rsv62 0x34), ([0x82, 0x34], .rsv82 0x34), ([0xC2, 0x34], .rsvC2 0x34),
    ([0xE2, 0x34], .rsvE2 0x34), ([0x44, 0x34], .rsv44 0x34), ([0x54, 0x34], .rsv54 0x34),
    ([0xD4, 0x34], .rsvD4 0x34), ([0xF4, 0x34], .rsvF4 0x34), ([0x5C, 0x34, 0x12], .rsv5C 0x34 0x12),
    ([0xDC, 0x34, 0x12], .rsvDC 0x34 0x12), ([0xFC, 0x34, 0x12], .rsvFC 0x34 0x12)] = true := by
  decide

/-! One step each: the vectors of spec/95, by their numbers. -/

/-- The default start state of spec/95. -/
def base : State :=
  { a := 0, x := 0, y := 0, sp := 0xFF, pc := 0x0200, p := ⟨false, false, false, false, false, false⟩,
    nmiPending := false, run := .running, mem := [], env := [], board := Board.allRam, draws := 0 }

/-- Memory with these bytes stored and zero elsewhere. -/
def stored (l : List (Addr × Byte)) : Memory := Memory.writeAll [] l

/-- The state after one step. -/
def after (s : State) : State :=
  match step s with
  | .next t => t
  | _ => s

/-- A, X, Y, S, PC and the flags N, V, D, I, Z, C. -/
def regs (s : State) : Byte × Byte × Byte × Byte × Addr × Status := (s.a, s.x, s.y, s.sp, s.pc, s.p)

/-- V1. -/
theorem test_v1_lda :
    let s := { base with a := 0x55, mem := stored [(0x0200, 0xA9), (0x0201, 0x00)] }
    regs (after s) = (0x00, 0x00, 0x00, 0xFF, 0x0202, ⟨false, false, false, false, true, false⟩) := by decide

/-- V5. -/
theorem test_v5_lda :
    let s := { base with x := 0x02, mem := stored [(0x0001, 0xAA), (0x0101, 0xBB), (0x0200, 0xB5), (0x0201, 0xFF)] }
    regs (after s) = (0xAA, 0x02, 0x00, 0xFF, 0x0202, ⟨true, false, false, false, false, false⟩) := by decide

/-- V7. -/
theorem test_v7_lda :
    let s := { base with x := 0x01, mem := stored [(0x4500, 0x99), (0x0200, 0xBD), (0x0201, 0xFF), (0x0202, 0x44)] }
    regs (after s) = (0x99, 0x01, 0x00, 0xFF, 0x0203, ⟨true, false, false, false, false, false⟩) := by decide

/-- V8. -/
theorem test_v8_lda :
    let s := { base with y := 0x02, mem := stored [(0x0001, 0x77), (0x0200, 0xB9), (0x0201, 0xFF), (0x0202, 0xFF)] }
    regs (after s) = (0x77, 0x00, 0x02, 0xFF, 0x0203, ⟨false, false, false, false, false, false⟩) := by decide

/-- V9. -/
theorem test_v9_lda :
    let s := { base with x := 0x01, mem := stored [(0x0000, 0x12), (0x00FF, 0x34), (0x0100, 0xEE), (0x1234, 0x5A),
      (0x0200, 0xA1), (0x0201, 0xFE)] }
    regs (after s) = (0x5A, 0x01, 0x00, 0xFF, 0x0202, ⟨false, false, false, false, false, false⟩) := by decide

/-- V11. -/
theorem test_v11_lda :
    let s := { base with y := 0x00, mem := stored [(0x0000, 0x30), (0x00FF, 0x00), (0x3000, 0x11), (0x0200, 0xB1),
      (0x0201, 0xFF)] }
    regs (after s) = (0x11, 0x00, 0x00, 0xFF, 0x0202, ⟨false, false, false, false, false, false⟩) := by decide

/-- V12. -/
theorem test_v12_lda :
    let s := { base with mem := stored [(0x0000, 0x30), (0x00FF, 0x00), (0x0100, 0x40), (0x3000, 0x21), (0x4000,
      0x22), (0x0200, 0xB2), (0x0201, 0xFF)] }
    regs (after s) = (0x21, 0x00, 0x00, 0xFF, 0x0202, ⟨false, false, false, false, false, false⟩) := by decide

/-- V14. -/
theorem test_v14_ldx :
    let s := { base with y := 0x90, mem := stored [(0x0010, 0x05), (0x0200, 0xB6), (0x0201, 0x80)] }
    regs (after s) = (0x00, 0x05, 0x90, 0xFF, 0x0202, ⟨false, false, false, false, false, false⟩) := by decide

/-- V17. -/
theorem test_v17_ldy :
    let s := { base with x := 0x20, mem := stored [(0x4510, 0x80), (0x0200, 0xBC), (0x0201, 0xF0), (0x0202, 0x44)] }
    regs (after s) = (0x00, 0x20, 0x80, 0xFF, 0x0203, ⟨true, false, false, false, false, false⟩) := by decide

/-- V22. -/
theorem test_v22_sta :
    let s := { base with a := 0xCD, y := 0xFF, mem := stored [(0x0200, 0x99), (0x0201, 0x01), (0x0202, 0xFF)] }
    regs (after s) = (0xCD, 0x00, 0xFF, 0xFF, 0x0203, ⟨false, false, false, false, false, false⟩) ∧ Memory.read (after
      s).mem 0x0000 = 0xCD := by decide

/-- V24. -/
theorem test_v24_sta :
    let s := { base with a := 0x5A, y := 0xFF, mem := stored [(0x0044, 0x01), (0x0045, 0x30), (0x0200, 0x91), (0x0201,
      0x44)] }
    regs (after s) = (0x5A, 0x00, 0xFF, 0xFF, 0x0202, ⟨false, false, false, false, false, false⟩) ∧ Memory.read (after
      s).mem 0x3100 = 0x5A := by decide

/-- V27. -/
theorem test_v27_stx :
    let s := { base with x := 0x11, y := 0x01, mem := stored [(0x0200, 0x96), (0x0201, 0x44)] }
    regs (after s) = (0x00, 0x11, 0x01, 0xFF, 0x0202, ⟨false, false, false, false, false, false⟩) ∧ Memory.read (after
      s).mem 0x0045 = 0x11 := by decide

/-- V29. -/
theorem test_v29_sty :
    let s := { base with x := 0xFF, y := 0x22, mem := stored [(0x0200, 0x94), (0x0201, 0x44)] }
    regs (after s) = (0x00, 0xFF, 0x22, 0xFF, 0x0202, ⟨false, false, false, false, false, false⟩) ∧ Memory.read (after
      s).mem 0x0043 = 0x22 := by decide

/-- V30. -/
theorem test_v30_stz :
    let s := { base with p := ⟨false, false, false, false, false, false⟩, mem := stored [(0x0044, 0xFF), (0x0200,
      0x64), (0x0201, 0x44)] }
    regs (after s) = (0x00, 0x00, 0x00, 0xFF, 0x0202, ⟨false, false, false, false, false, false⟩) ∧ Memory.read (after
      s).mem 0x0044 = 0x00 := by decide

/-- V33. -/
theorem test_v33_tax :
    let s := { base with a := 0x80, mem := stored [(0x0200, 0xAA)] }
    regs (after s) = (0x80, 0x80, 0x00, 0xFF, 0x0201, ⟨true, false, false, false, false, false⟩) := by decide

/-- V34. -/
theorem test_v34_tay :
    let s := { base with a := 0x00, y := 0x55, mem := stored [(0x0200, 0xA8)] }
    regs (after s) = (0x00, 0x00, 0x00, 0xFF, 0x0201, ⟨false, false, false, false, true, false⟩) := by decide

/-- V35. -/
theorem test_v35_txa :
    let s := { base with a := 0xFF, x := 0x01, p := ⟨true, false, false, false, true, false⟩, mem := stored [(0x0200,
      0x8A)] }
    regs (after s) = (0x01, 0x01, 0x00, 0xFF, 0x0201, ⟨false, false, false, false, false, false⟩) := by decide

/-- V36. -/
theorem test_v36_tya :
    let s := { base with y := 0xFF, mem := stored [(0x0200, 0x98)] }
    regs (after s) = (0xFF, 0x00, 0xFF, 0xFF, 0x0201, ⟨true, false, false, false, false, false⟩) := by decide

/-- V37. -/
theorem test_v37_tsx :
    let s := { base with sp := 0x00, mem := stored [(0x0200, 0xBA)] }
    regs (after s) = (0x00, 0x00, 0x00, 0x00, 0x0201, ⟨false, false, false, false, true, false⟩) := by decide

/-- V39. -/
theorem test_v39_txs :
    let s := { base with x := 0x00, p := ⟨false, false, false, false, false, false⟩, mem := stored [(0x0200, 0x9A)] }
    regs (after s) = (0x00, 0x00, 0x00, 0x00, 0x0201, ⟨false, false, false, false, false, false⟩) := by decide

/-- V41. -/
theorem test_v41_adc :
    let s := { base with a := 0x50, mem := stored [(0x0200, 0x69), (0x0201, 0x50)] }
    regs (after s) = (0xA0, 0x00, 0x00, 0xFF, 0x0202, ⟨true, true, false, false, false, false⟩) := by decide

/-- V44. -/
theorem test_v44_adc :
    let s := { base with a := 0x80, mem := stored [(0x0200, 0x69), (0x0201, 0xFF)] }
    regs (after s) = (0x7F, 0x00, 0x00, 0xFF, 0x0202, ⟨false, true, false, false, false, true⟩) := by decide

/-- V48. -/
theorem test_v48_adc :
    let s := { base with a := 0x01, mem := stored [(0x0044, 0x00), (0x0045, 0x30), (0x3000, 0x7F), (0x0200, 0x72),
      (0x0201, 0x44)] }
    regs (after s) = (0x80, 0x00, 0x00, 0xFF, 0x0202, ⟨true, true, false, false, false, false⟩) := by decide

/-- V50. -/
theorem test_v50_sbc :
    let s := { base with a := 0x50, p := ⟨false, false, false, false, false, true⟩, mem := stored [(0x0200, 0xE9),
      (0x0201, 0xB0)] }
    regs (after s) = (0xA0, 0x00, 0x00, 0xFF, 0x0202, ⟨true, true, false, false, false, false⟩) := by decide

/-- V56. -/
theorem test_v56_sbc :
    let s := { base with a := 0x7F, p := ⟨false, false, false, false, false, true⟩, mem := stored [(0x0200, 0xE9),
      (0x0201, 0xFF)] }
    regs (after s) = (0x80, 0x00, 0x00, 0xFF, 0x0202, ⟨true, true, false, false, false, false⟩) := by decide

/-- V69. -/
theorem test_v69_cmp :
    let s := { base with a := 0x00, mem := stored [(0x0200, 0xC9), (0x0201, 0x80)] }
    regs (after s) = (0x00, 0x00, 0x00, 0xFF, 0x0202, ⟨true, false, false, false, false, false⟩) := by decide

/-- V70. -/
theorem test_v70_cmp :
    let s := { base with a := 0x10, p := ⟨false, false, true, false, false, false⟩, mem := stored [(0x0200, 0xC9),
      (0x0201, 0x10)] }
    regs (after s) = (0x10, 0x00, 0x00, 0xFF, 0x0202, ⟨false, false, true, false, true, true⟩) := by decide

/-- V73. -/
theorem test_v73_cpx :
    let s := { base with x := 0xFF, mem := stored [(0x0044, 0xFF), (0x0200, 0xE4), (0x0201, 0x44)] }
    regs (after s) = (0x00, 0xFF, 0x00, 0xFF, 0x0202, ⟨false, false, false, false, true, true⟩) := by decide

/-- V74. -/
theorem test_v74_cpy :
    let s := { base with y := 0x00, mem := stored [(0x0200, 0xC0), (0x0201, 0x80)] }
    regs (after s) = (0x00, 0x00, 0x00, 0xFF, 0x0202, ⟨true, false, false, false, false, false⟩) := by decide

/-- V76. -/
theorem test_v76_inc :
    let s := { base with p := ⟨false, false, false, false, false, true⟩, mem := stored [(0x0044, 0xFF), (0x0200,
      0xE6), (0x0201, 0x44)] }
    regs (after s) = (0x00, 0x00, 0x00, 0xFF, 0x0202, ⟨false, false, false, false, true, true⟩) ∧ Memory.read (after
      s).mem 0x0044 = 0x00 := by decide

/-- V78. -/
theorem test_v78_inc :
    let s := { base with a := 0xFF, mem := stored [(0x0200, 0x1A)] }
    regs (after s) = (0x00, 0x00, 0x00, 0xFF, 0x0201, ⟨false, false, false, false, true, false⟩) := by decide

/-- V79. -/
theorem test_v79_inc :
    let s := { base with x := 0x01, p := ⟨false, false, true, false, false, false⟩, mem := stored [(0x4500, 0x09),
      (0x0200, 0xFE), (0x0201, 0xFF), (0x0202, 0x44)] }
    regs (after s) = (0x00, 0x01, 0x00, 0xFF, 0x0203, ⟨false, false, true, false, false, false⟩) ∧ Memory.read (after
      s).mem 0x4500 = 0x0A := by decide

/-- V80. -/
theorem test_v80_dec :
    let s := { base with mem := stored [(0x0044, 0x00), (0x0200, 0xC6), (0x0201, 0x44)] }
    regs (after s) = (0x00, 0x00, 0x00, 0xFF, 0x0202, ⟨true, false, false, false, false, false⟩) ∧ Memory.read (after
      s).mem 0x0044 = 0xFF := by decide

/-- V82. -/
theorem test_v82_dec :
    let s := { base with a := 0x80, mem := stored [(0x0200, 0x3A)] }
    regs (after s) = (0x7F, 0x00, 0x00, 0xFF, 0x0201, ⟨false, false, false, false, false, false⟩) := by decide

/-- V84. -/
theorem test_v84_inx :
    let s := { base with x := 0xFF, mem := stored [(0x0200, 0xE8)] }
    regs (after s) = (0x00, 0x00, 0x00, 0xFF, 0x0201, ⟨false, false, false, false, true, false⟩) := by decide

/-- V85. -/
theorem test_v85_iny :
    let s := { base with y := 0x7F, mem := stored [(0x0200, 0xC8)] }
    regs (after s) = (0x00, 0x00, 0x80, 0xFF, 0x0201, ⟨true, false, false, false, false, false⟩) := by decide

/-- V86. -/
theorem test_v86_dex :
    let s := { base with x := 0x00, mem := stored [(0x0200, 0xCA)] }
    regs (after s) = (0x00, 0xFF, 0x00, 0xFF, 0x0201, ⟨true, false, false, false, false, false⟩) := by decide

/-- V87. -/
theorem test_v87_dey :
    let s := { base with y := 0x01, mem := stored [(0x0200, 0x88)] }
    regs (after s) = (0x00, 0x00, 0x00, 0xFF, 0x0201, ⟨false, false, false, false, true, false⟩) := by decide

/-- V89. -/
theorem test_v89_and :
    let s := { base with a := 0x9C, p := ⟨false, true, false, false, false, true⟩, mem := stored [(0x0200, 0x29),
      (0x0201, 0xF0)] }
    regs (after s) = (0x90, 0x00, 0x00, 0xFF, 0x0202, ⟨true, true, false, false, false, true⟩) := by decide

/-- V90. -/
theorem test_v90_ora :
    let s := { base with a := 0x01, mem := stored [(0x0200, 0x09), (0x0201, 0x80)] }
    regs (after s) = (0x81, 0x00, 0x00, 0xFF, 0x0202, ⟨true, false, false, false, false, false⟩) := by decide

/-- V93. -/
theorem test_v93_eor :
    let s := { base with a := 0x55, mem := stored [(0x0200, 0x49), (0x0201, 0xFF)] }
    regs (after s) = (0xAA, 0x00, 0x00, 0xFF, 0x0202, ⟨true, false, false, false, false, false⟩) := by decide

/-- V95. -/
theorem test_v95_bit :
    let s := { base with a := 0x01, mem := stored [(0x0044, 0xC0), (0x0200, 0x24), (0x0201, 0x44)] }
    regs (after s) = (0x01, 0x00, 0x00, 0xFF, 0x0202, ⟨true, true, false, false, true, false⟩) := by decide

/-- V97. -/
theorem test_v97_bit :
    let s := { base with a := 0x01, mem := stored [(0x0200, 0x89), (0x0201, 0xC0)] }
    regs (after s) = (0x01, 0x00, 0x00, 0xFF, 0x0202, ⟨false, false, false, false, true, false⟩) := by decide

/-- V101. -/
theorem test_v101_trb :
    let s := { base with a := 0x0F, mem := stored [(0x0044, 0x3C), (0x0200, 0x14), (0x0201, 0x44)] }
    regs (after s) = (0x0F, 0x00, 0x00, 0xFF, 0x0202, ⟨false, false, false, false, false, false⟩) ∧ Memory.read (after
      s).mem 0x0044 = 0x30 := by decide

/-- V105. -/
theorem test_v105_tsb :
    let s := { base with a := 0x80, mem := stored [(0x4400, 0x01), (0x0200, 0x0C), (0x0201, 0x00), (0x0202, 0x44)] }
    regs (after s) = (0x80, 0x00, 0x00, 0xFF, 0x0203, ⟨false, false, false, false, true, false⟩) ∧ Memory.read (after
      s).mem 0x4400 = 0x81 := by decide

/-- V106. -/
theorem test_v106_asl :
    let s := { base with a := 0x80, mem := stored [(0x0200, 0x0A)] }
    regs (after s) = (0x00, 0x00, 0x00, 0xFF, 0x0201, ⟨false, false, false, false, true, true⟩) := by decide

/-- V108. -/
theorem test_v108_asl :
    let s := { base with mem := stored [(0x0044, 0xC1), (0x0200, 0x06), (0x0201, 0x44)] }
    regs (after s) = (0x00, 0x00, 0x00, 0xFF, 0x0202, ⟨true, false, false, false, false, true⟩) ∧ Memory.read (after
      s).mem 0x0044 = 0x82 := by decide

/-- V109. -/
theorem test_v109_lsr :
    let s := { base with a := 0x01, p := ⟨true, false, false, false, false, false⟩, mem := stored [(0x0200, 0x4A)] }
    regs (after s) = (0x00, 0x00, 0x00, 0xFF, 0x0201, ⟨false, false, false, false, true, true⟩) := by decide

/-- V113. -/
theorem test_v113_rol :
    let s := { base with x := 0x04, p := ⟨false, false, false, false, false, true⟩, mem := stored [(0x0044, 0x55),
      (0x0200, 0x36), (0x0201, 0x40)] }
    regs (after s) = (0x00, 0x04, 0x00, 0xFF, 0x0202, ⟨true, false, false, false, false, false⟩) ∧ Memory.read (after
      s).mem 0x0044 = 0xAB := by decide

/-- V114. -/
theorem test_v114_ror :
    let s := { base with a := 0x01, p := ⟨false, false, false, false, false, true⟩, mem := stored [(0x0200, 0x6A)] }
    regs (after s) = (0x80, 0x00, 0x00, 0xFF, 0x0201, ⟨true, false, false, false, false, true⟩) := by decide

/-- V116. -/
theorem test_v116_ror :
    let s := { base with x := 0x01, p := ⟨false, false, false, false, false, true⟩, mem := stored [(0x4500, 0x02),
      (0x0200, 0x7E), (0x0201, 0xFF), (0x0202, 0x44)] }
    regs (after s) = (0x00, 0x01, 0x00, 0xFF, 0x0203, ⟨true, false, false, false, false, false⟩) ∧ Memory.read (after
      s).mem 0x4500 = 0x81 := by decide

/-- V117. -/
theorem test_v117_bcc :
    let s := { base with p := ⟨false, false, false, false, false, false⟩, mem := stored [(0x0200, 0x90), (0x0201,
      0x10)] }
    regs (after s) = (0x00, 0x00, 0x00, 0xFF, 0x0212, ⟨false, false, false, false, false, false⟩) := by decide

/-- V120. -/
theorem test_v120_bcs :
    let s := { base with p := ⟨false, false, false, false, false, false⟩, mem := stored [(0x0200, 0xB0), (0x0201,
      0x10)] }
    regs (after s) = (0x00, 0x00, 0x00, 0xFF, 0x0202, ⟨false, false, false, false, false, false⟩) := by decide

/-- V121. -/
theorem test_v121_beq :
    let s := { base with p := ⟨false, false, false, false, true, false⟩, mem := stored [(0x0200, 0xF0), (0x0201,
      0x7F)] }
    regs (after s) = (0x00, 0x00, 0x00, 0xFF, 0x0281, ⟨false, false, false, false, true, false⟩) := by decide

/-- V123. -/
theorem test_v123_bne :
    let s := { base with p := ⟨false, false, false, false, false, false⟩, mem := stored [(0x0200, 0xD0), (0x0201,
      0x80)] }
    regs (after s) = (0x00, 0x00, 0x00, 0xFF, 0x0182, ⟨false, false, false, false, false, false⟩) := by decide

/-- V124. -/
theorem test_v124_bne :
    let s := { base with p := ⟨false, false, false, false, true, false⟩, mem := stored [(0x0200, 0xD0), (0x0201,
      0x80)] }
    regs (after s) = (0x00, 0x00, 0x00, 0xFF, 0x0202, ⟨false, false, false, false, true, false⟩) := by decide

/-- V125. -/
theorem test_v125_bmi :
    let s := { base with p := ⟨true, false, false, false, false, false⟩, mem := stored [(0x0200, 0x30), (0x0201,
      0xFC)] }
    regs (after s) = (0x00, 0x00, 0x00, 0xFF, 0x01FE, ⟨true, false, false, false, false, false⟩) := by decide

/-- V128. -/
theorem test_v128_bpl :
    let s := { base with p := ⟨true, false, false, false, false, false⟩, mem := stored [(0x0200, 0x10), (0x0201,
      0x05)] }
    regs (after s) = (0x00, 0x00, 0x00, 0xFF, 0x0202, ⟨true, false, false, false, false, false⟩) := by decide

/-- V130. -/
theorem test_v130_bvc :
    let s := { base with p := ⟨false, true, false, false, false, false⟩, mem := stored [(0x0200, 0x50), (0x0201,
      0x02)] }
    regs (after s) = (0x00, 0x00, 0x00, 0xFF, 0x0202, ⟨false, true, false, false, false, false⟩) := by decide

/-- V131. -/
theorem test_v131_bvs :
    let s := { base with p := ⟨false, true, false, false, false, false⟩, mem := stored [(0x0200, 0x70), (0x0201,
      0x02)] }
    regs (after s) = (0x00, 0x00, 0x00, 0xFF, 0x0204, ⟨false, true, false, false, false, false⟩) := by decide

/-- V133. -/
theorem test_v133_bra :
    let s := { base with mem := stored [(0x0200, 0x80), (0x0201, 0xFE)] }
    regs (after s) = (0x00, 0x00, 0x00, 0xFF, 0x0200, ⟨false, false, false, false, false, false⟩) := by decide

/-- V135. -/
theorem test_v135_bra :
    let s := { base with pc := 0xFFF0, mem := stored [(0xFFF0, 0x80), (0xFFF1, 0x20)] }
    regs (after s) = (0x00, 0x00, 0x00, 0xFF, 0x0012, ⟨false, false, false, false, false, false⟩) := by decide

/-- V137. -/
theorem test_v137_jmp :
    let s := { base with mem := stored [(0x0200, 0x4C), (0x0201, 0x34), (0x0202, 0x12)] }
    regs (after s) = (0x00, 0x00, 0x00, 0xFF, 0x1234, ⟨false, false, false, false, false, false⟩) := by decide

/-- V138. -/
theorem test_v138_jmp :
    let s := { base with mem := stored [(0x3000, 0xEE), (0x30FF, 0x34), (0x3100, 0x12), (0x0200, 0x6C), (0x0201,
      0xFF), (0x0202, 0x30)] }
    regs (after s) = (0x00, 0x00, 0x00, 0xFF, 0x1234, ⟨false, false, false, false, false, false⟩) := by decide

/-- V141. -/
theorem test_v141_jmp :
    let s := { base with x := 0x04, mem := stored [(0x0002, 0x78), (0x0003, 0x56), (0x0200, 0x7C), (0x0201, 0xFE),
      (0x0202, 0xFF)] }
    regs (after s) = (0x00, 0x04, 0x00, 0xFF, 0x5678, ⟨false, false, false, false, false, false⟩) := by decide

/-- V144. -/
theorem test_v144_jsr :
    let s := { base with sp := 0x00, mem := stored [(0x0200, 0x20), (0x0201, 0x34), (0x0202, 0x12)] }
    regs (after s) = (0x00, 0x00, 0x00, 0xFE, 0x1234, ⟨false, false, false, false, false, false⟩) ∧ Memory.read (after
      s).mem 0x0100 = 0x02 ∧ Memory.read (after s).mem 0x01FF = 0x02 := by decide

/-- V147. -/
theorem test_v147_rts :
    let s := { base with sp := 0xFF, mem := stored [(0x0100, 0x10), (0x0101, 0x20), (0x0200, 0x60)] }
    regs (after s) = (0x00, 0x00, 0x00, 0x01, 0x2011, ⟨false, false, false, false, false, false⟩) := by decide

/-- V148. -/
theorem test_v148_rti :
    let s := { base with sp := 0xFC, mem := stored [(0x01FD, 0xFF), (0x01FE, 0x34), (0x01FF, 0x12), (0x0200, 0x40)] }
    regs (after s) = (0x00, 0x00, 0x00, 0xFF, 0x1234, ⟨true, true, true, true, true, true⟩) := by decide

/-- V151. -/
theorem test_v151_pha :
    let s := { base with a := 0x5A, sp := 0x00, mem := stored [(0x0200, 0x48)] }
    regs (after s) = (0x5A, 0x00, 0x00, 0xFF, 0x0201, ⟨false, false, false, false, false, false⟩) ∧ Memory.read (after
      s).mem 0x0100 = 0x5A := by decide

/-- V153. -/
theorem test_v153_pla :
    let s := { base with a := 0x11, sp := 0xFF, mem := stored [(0x0100, 0x00), (0x0200, 0x68)] }
    regs (after s) = (0x00, 0x00, 0x00, 0x00, 0x0201, ⟨false, false, false, false, true, false⟩) := by decide

/-- V154. -/
theorem test_v154_php :
    let s := { base with p := ⟨true, true, false, true, true, true⟩, mem := stored [(0x0200, 0x08)] }
    regs (after s) = (0x00, 0x00, 0x00, 0xFE, 0x0201, ⟨true, true, false, true, true, true⟩) ∧ Memory.read (after
      s).mem 0x01FF = 0xF7 := by decide

/-- V157. -/
theorem test_v157_plp :
    let s := { base with sp := 0xFE, p := ⟨true, true, true, true, true, true⟩, mem := stored [(0x01FF, 0x30),
      (0x0200, 0x28)] }
    regs (after s) = (0x00, 0x00, 0x00, 0xFF, 0x0201, ⟨false, false, false, false, false, false⟩) := by decide

/-- V159. -/
theorem test_v159_phx :
    let s := { base with x := 0x01, mem := stored [(0x0200, 0xDA)] }
    regs (after s) = (0x00, 0x01, 0x00, 0xFE, 0x0201, ⟨false, false, false, false, false, false⟩) ∧ Memory.read (after
      s).mem 0x01FF = 0x01 := by decide

/-- V160. -/
theorem test_v160_plx :
    let s := { base with sp := 0xFE, mem := stored [(0x01FF, 0x00), (0x0200, 0xFA)] }
    regs (after s) = (0x00, 0x00, 0x00, 0xFF, 0x0201, ⟨false, false, false, false, true, false⟩) := by decide

/-- V161. -/
theorem test_v161_phy :
    let s := { base with y := 0xFF, mem := stored [(0x0200, 0x5A)] }
    regs (after s) = (0x00, 0x00, 0xFF, 0xFE, 0x0201, ⟨false, false, false, false, false, false⟩) ∧ Memory.read (after
      s).mem 0x01FF = 0xFF := by decide

/-- V162. -/
theorem test_v162_ply :
    let s := { base with sp := 0xFE, mem := stored [(0x01FF, 0xFF), (0x0200, 0x7A)] }
    regs (after s) = (0x00, 0x00, 0xFF, 0xFF, 0x0201, ⟨true, false, false, false, false, false⟩) := by decide

/-- V163. -/
theorem test_v163_clc :
    let s := { base with p := ⟨true, true, true, true, true, true⟩, mem := stored [(0x0200, 0x18)] }
    regs (after s) = (0x00, 0x00, 0x00, 0xFF, 0x0201, ⟨true, true, true, true, true, false⟩) := by decide

/-- V164. -/
theorem test_v164_cld :
    let s := { base with p := ⟨true, true, true, true, true, true⟩, mem := stored [(0x0200, 0xD8)] }
    regs (after s) = (0x00, 0x00, 0x00, 0xFF, 0x0201, ⟨true, true, false, true, true, true⟩) := by decide

/-- V165. -/
theorem test_v165_cli :
    let s := { base with p := ⟨true, true, true, true, true, true⟩, mem := stored [(0x0200, 0x58)] }
    regs (after s) = (0x00, 0x00, 0x00, 0xFF, 0x0201, ⟨true, true, true, false, true, true⟩) := by decide

/-- V166. -/
theorem test_v166_clv :
    let s := { base with p := ⟨true, true, true, true, true, true⟩, mem := stored [(0x0200, 0xB8)] }
    regs (after s) = (0x00, 0x00, 0x00, 0xFF, 0x0201, ⟨true, false, true, true, true, true⟩) := by decide

/-- V167. -/
theorem test_v167_sec :
    let s := { base with p := ⟨false, false, false, false, false, false⟩, mem := stored [(0x0200, 0x38)] }
    regs (after s) = (0x00, 0x00, 0x00, 0xFF, 0x0201, ⟨false, false, false, false, false, true⟩) := by decide

/-- V168. -/
theorem test_v168_sed :
    let s := { base with p := ⟨false, false, false, false, false, false⟩, mem := stored [(0x0200, 0xF8)] }
    regs (after s) = (0x00, 0x00, 0x00, 0xFF, 0x0201, ⟨false, false, true, false, false, false⟩) := by decide

/-- V169. -/
theorem test_v169_sei :
    let s := { base with p := ⟨false, false, false, false, false, false⟩, mem := stored [(0x0200, 0x78)] }
    regs (after s) = (0x00, 0x00, 0x00, 0xFF, 0x0201, ⟨false, false, false, true, false, false⟩) := by decide

/-- V171. -/
theorem test_v171_brk :
    let s := { base with p := ⟨true, false, true, false, false, true⟩, mem := stored [(0xFFFE, 0x00), (0xFFFF, 0x90),
      (0x0200, 0x00), (0x0201, 0xAB)] }
    regs (after s) = (0x00, 0x00, 0x00, 0xFC, 0x9000, ⟨true, false, false, true, false, true⟩) ∧ Memory.read (after
      s).mem 0x01FF = 0x02 ∧ Memory.read (after s).mem 0x01FE = 0x02 ∧ Memory.read (after s).mem 0x01FD = 0xB9 := by
      decide

/-- V172. -/
theorem test_v172_brk :
    let s := { base with pc := 0xFFFF, mem := stored [(0xFFFE, 0x34), (0xFFFF, 0x00), (0x0000, 0x00)] }
    regs (after s) = (0x00, 0x00, 0x00, 0xFC, 0x0034, ⟨false, false, false, true, false, false⟩) ∧ Memory.read (after
      s).mem 0x01FF = 0x00 ∧ Memory.read (after s).mem 0x01FE = 0x01 ∧ Memory.read (after s).mem 0x01FD = 0x30 := by
      decide

/-- V173. -/
theorem test_v173_nop :
    let s := { base with p := ⟨true, true, false, false, true, true⟩, mem := stored [(0x0200, 0xEA)] }
    regs (after s) = (0x00, 0x00, 0x00, 0xFF, 0x0201, ⟨true, true, false, false, true, true⟩) := by decide

/-- V174. -/
theorem test_v174_wai :
    let s := { base with mem := stored [(0x0200, 0xCB)] }
    regs (after s) = (0x00, 0x00, 0x00, 0xFF, 0x0201, ⟨false, false, false, false, false, false⟩) ∧ (after s).run =
      .waiting := by decide

/-- V175. -/
theorem test_v175_stp :
    let s := { base with mem := stored [(0x0200, 0xDB)] }
    regs (after s) = (0x00, 0x00, 0x00, 0xFF, 0x0201, ⟨false, false, false, false, false, false⟩) ∧ (after s).run =
      .stopped := by decide

/-- V176. -/
theorem test_v176_reserved :
    let s := { base with p := ⟨true, true, true, true, true, true⟩, mem := stored [(0x0200, 0x03)] }
    regs (after s) = (0x00, 0x00, 0x00, 0xFF, 0x0201, ⟨true, true, true, true, true, true⟩) := by decide

/-- V180. -/
theorem test_v180_reserved :
    let s := { base with p := ⟨false, false, true, false, false, false⟩, mem := stored [(0x0200, 0xE2), (0x0201,
      0xFF)] }
    regs (after s) = (0x00, 0x00, 0x00, 0xFF, 0x0202, ⟨false, false, true, false, false, false⟩) := by decide

/-- V183. -/
theorem test_v183_reserved :
    let s := { base with mem := stored [(0x0200, 0x5C), (0x0201, 0x34), (0x0202, 0x12)] }
    regs (after s) = (0x00, 0x00, 0x00, 0xFF, 0x0203, ⟨false, false, false, false, false, false⟩) := by decide

/-- V185. -/
theorem test_v185_reserved :
    let s := { base with mem := stored [(0x0200, 0xFF)] }
    regs (after s) = (0x00, 0x00, 0x00, 0xFF, 0x0201, ⟨false, false, false, false, false, false⟩) := by decide

/-! Decimal mode, whose V is free (V59, V62). -/

/-- V59. -/
theorem test_v59_adc_decimal :
    let t := after { base with a := 0x58,
                               p := ⟨false, false, true, false, false, true⟩,
                               mem := stored [(0x0200, 0x69), (0x0201, 0x46)] }
    (t.a, t.p.n, t.p.z, t.p.c) = (0x05, false, false, true) := by decide

/-- V62. -/
theorem test_v62_sbc_decimal :
    let t := after { base with p := ⟨false, false, true, false, false, true⟩,
                               mem := stored [(0x0200, 0xE9), (0x0201, 0x01)] }
    (t.a, t.p.n, t.p.z, t.p.c) = (0x99, true, false, false) := by decide

/-! Interrupts, reset and waiting: V186 to V195, each one step. -/

/-- The vectors of these tests: NMI to $A000, reset to $8000, IRQ to $9000. -/
def vectors : List (Addr × Byte) := [(0xFFFB, 0xA0), (0xFFFD, 0x80), (0xFFFF, 0x90)]

/-- The three bytes at the top of the stack page. -/
def pushed (s : State) : Byte × Byte × Byte :=
  (Memory.read s.mem 0x01FF, Memory.read s.mem 0x01FE, Memory.read s.mem 0x01FD)

/-- V186. -/
theorem test_v186_irq :
    let t := after { base with pc := 0x0203, p := ⟨true, false, false, false, true, true⟩, mem := stored vectors,
                               env := [{ Inputs.idle with irqLow := true }] }
    (regs t, pushed t) = ((0, 0, 0, 0xFC, 0x9000, ⟨true, false, false, true, true, true⟩), (0x02, 0x03, 0xA3)) := by
    decide

/-- V187: masked. The instruction at $0203, a NOP here, is executed. -/
theorem test_v187_masked_irq :
    let t := after { base with pc := 0x0203, p := ⟨false, false, false, true, false, false⟩,
                               mem := stored (vectors ++ [(0x0203, 0xEA)]), env := [{ Inputs.idle with irqLow := true }] }
    regs t = (0, 0, 0, 0xFF, 0x0204, ⟨false, false, false, true, false, false⟩) := by decide

/-- V188. -/
theorem test_v188_nmi :
    let t := after { base with pc := 0x0203, p := ⟨false, false, true, true, false, false⟩, mem := stored vectors,
                               env := [{ Inputs.idle with nmiEdge := true }] }
    regs t = (0, 0, 0, 0xFC, 0xA000, ⟨false, false, false, true, false, false⟩) ∧ pushed t = (0x02, 0x03, 0x2C) ∧
      t.nmiPending = false := by decide

/-- V189. -/
theorem test_v189_nmi_before_irq :
    let t := after { base with pc := 0x0203, mem := stored vectors,
                               env := [{ Inputs.idle with nmiEdge := true, irqLow := true }] }
    (regs t, pushed t) = ((0, 0, 0, 0xFC, 0xA000, ⟨false, false, false, true, false, false⟩),
    (0x02, 0x03, 0x20)) := by decide

/-- V190. -/
theorem test_v190_reset :
    let t := after { base with p := ⟨false, false, true, false, false, false⟩, run := .stopped, nmiPending := true,
                               mem := stored vectors, env := [{ Inputs.idle with reset := true }] }
    (t.pc, t.p.i, t.p.d, t.run, t.nmiPending) = (0x8000, true, false, .running, false) := by decide

/-- V191. -/
theorem test_v191_irq_ends_wait :
    let t := after { base with pc := 0x0201, run := .waiting, mem := stored vectors,
                               env := [{ Inputs.idle with irqLow := true }] }
    regs t = (0, 0, 0, 0xFC, 0x9000, ⟨false, false, false, true, false, false⟩) ∧ pushed t = (0x02, 0x01, 0x20) ∧
      t.run = .running := by decide

/-- V192. -/
theorem test_v192_masked_irq_ends_wait :
    let t := after { base with pc := 0x0201, run := .waiting, p := ⟨false, false, false, true, false, false⟩,
                               mem := stored vectors, env := [{ Inputs.idle with irqLow := true }] }
    (regs t, t.run) = ((0, 0, 0, 0xFF, 0x0201, ⟨false, false, false, true, false, false⟩), .running) := by decide

/-- V193. -/
theorem test_v193_nmi_ends_wait :
    let t := after { base with pc := 0x0201, run := .waiting, p := ⟨false, false, false, true, false, false⟩,
                               mem := stored vectors, env := [{ Inputs.idle with nmiEdge := true }] }
    (regs t, pushed t) = ((0, 0, 0, 0xFC, 0xA000, ⟨false, false, false, true, false, false⟩),
    (0x02, 0x01, 0x24)) := by decide

/-- V194. -/
theorem test_v194_stopped :
    let t := after { base with pc := 0x0201, run := .stopped, mem := stored vectors,
                               env := [{ Inputs.idle with nmiEdge := true, irqLow := true }] }
    (regs t, t.run) = ((0, 0, 0, 0xFF, 0x0201, ⟨false, false, false, false, false, false⟩), .stopped) := by decide

/-- V195: the boundary right after CLI. -/
theorem test_v195_irq_after_cli :
    let s := { base with p := ⟨false, false, false, true, false, false⟩, mem := stored (vectors ++ [(0x0200, 0x58)]),
                         env := [{ Inputs.idle with irqLow := true }, { Inputs.idle with irqLow := true }] }
    let t := after (after s)
    (regs t, pushed t) = ((0, 0, 0, 0xFC, 0x9000, ⟨false, false, false, true, false, false⟩),
    (0x02, 0x01, 0x20)) := by decide

/-- 10 R39: an edge on SO- sets V before the instruction. Here BVS is then taken. -/
theorem test_so_edge :
    let t := after { base with mem := stored [(0x0200, 0x70), (0x0201, 0x02)],
                               env := [{ Inputs.idle with soEdge := true }] }
    (t.pc, t.p.v) = (0x0204, true) := by decide

/-! Cycles, bus and assembler text. -/

/-- 30 R84, 40 R118: LDA absolute,X takes 4 cycles, 5 across a page; STA absolute,X takes 5 always. -/
theorem test_cycles_indexed :
    (cycleCount (.ldaAbsx 0x44FE) { base with x := 1 }, cycleCount (.ldaAbsx 0x44FF) { base with x := 1 },
      cycleCount (.staAbsx 0x4400) base) = (4, 5, 5) := by decide

/-- 45 R190: a branch not taken, taken, taken across a page. -/
theorem test_cycles_branch :
    (cycleCount (.beq 0x10) base, cycleCount (.bne 0x10) base, cycleCount (.bne 0x80) base) = (2, 3, 4) := by decide

/-- 70 R314: INC zero page is R, R, R, IO, W with ML- low in the last three. -/
theorem test_bus_inc_zp :
    (busCycles (.incZp 0x44) { base with mem := stored [(0x0044, 0x7F)] }).map (fun c => (c.addr, c.wrote, c.io, c.mlLow)) =
      [(0x0200, none, false, false), (0x0201, none, false, false), (0x0044, none, false, true),
      (0x0044, none, true, true),
       (0x0044, some 0x80, false, true)] := by decide

/-- 70 R316: JSR reads the whole address, then writes PCH and PCL. -/
theorem test_bus_jsr :
    (busCycles (.jsr 0x1234) base).map (fun c => (c.addr, c.wrote)) =
      [(0x0200, none), (0x0201, none), (0x0202, none), (0x0202, none), (0x01FF, some 0x02),
      (0x01FE, some 0x02)] := by decide

/-- 30 R90: one operand of each shape. -/
theorem test_assembly :
    [assemblyText (.ldaIndy 0x44) 0, assemblyText (.aslAcc) 0, assemblyText (.bcc 0x05) 0x1000, assemblyText (.adcImm 0x0A) 0].map
      (fun o => o.map String.ofList) =
      [some "LDA ($44),Y", some "ASL A", some "BCC $1007", some "ADC #$0A"] := by decide

/-! The board. -/

/-- A board with ROM from $8000 up, a device in page $40, and nothing from $5000 to $7FFF, in the smaller package at 8 MHz. -/
def romBoard : Board := ⟨[⟨0x8000, 0xFFFF, .rom⟩, ⟨0x4000, 0x40FF, .device⟩, ⟨0x5000, 0x7FFF, .unmapped⟩], .pdip40, .mhz8⟩

/-- Both ends of a region, and an address in none. -/
theorem test_kindAt :
    [romBoard.kindAt 0x7FFF, romBoard.kindAt 0x8000, romBoard.kindAt 0xFFFF, romBoard.kindAt 0x40FF, romBoard.kindAt 0x4100] =
      [.unmapped, .rom, .rom, .device, .ram] := by decide

/-- 20 R53: a store to RAM is read back, one to ROM is not. -/
theorem test_store_rom :
    let t := after { base with board := romBoard, a := 0x5A, mem := stored [(0x0200, 0x8D), (0x0202, 0x90),
    (0x9000, 0x11)] }
    (Memory.read t.mem 0x9000, t.pc) = (0x11, 0x0203) := by decide

/-- 20 R52: what a device supplies is read, here the byte it puts there at the boundary. -/
theorem test_read_device :
    (after { base with board := romBoard, mem := stored [(0x0200, 0xAD), (0x0202, 0x40)],
                       env := [{ Inputs.idle with writes := [(0x4000, 0x7E)] }] }).a = 0x7E := by decide

/-- 00 R5: ML- low in the write of INC zero page, on the package that has the pin. -/
theorem test_pins :
    ((busCycles (.incZp 0x44) base).map (fun c => c.mlPin .plcc44) =
      [some true, some true, some false, some false, some false]) ∧
    ((busCycles (.incZp 0x44) base).map (fun c => c.vpPin romBoard.package) = [none, none, none, none, none]) := by decide

/-- 70 R321: a two-cycle instruction at 8 MHz takes a quarter of a microsecond. -/
theorem test_clock : instructionMicroseconds .nop { base with board := romBoard } = 1 / 4 := by
  rw [instructionMicroseconds, show cycleCount .nop { base with board := romBoard } = 2 from rfl, Board.microseconds,
    show romBoard.clock.mhz = 8 from rfl]
  norm_num

/-- The host's placement of a word: the very next step runs it. -/
theorem test_withFetchWord : (after ({ base with run := .waiting }.withFetchWord 16 0x80A9)).a = 0x80 := by decide

/-! Witnesses: the hypotheses of the statements can be met. -/

/-- A state with an instruction at $0200 and an environment with every input but reset and RDY active. -/
def busy : State :=
  { base with mem := stored (vectors ++ [(0x0200, 0xA9), (0x0201, 0x80)]),
              env := [{ Inputs.idle with nmiEdge := true, irqLow := true, soEdge := true,
                                         writes := [(0x0010, 0x01), (0x0012, 0x03), (0x0010, 0x02)] }] }

theorem witness_EncodeOfDecodeIsIdentity : decode [0x20, 0x34, 0x12, 0xEA] = .ok (.jsr 0x1234, [0xEA]) := rfl

/-- Both sides of the equivalence at the boundary of the length: just enough bytes, one too few. -/
theorem witness_DecodeFailsOnlyOnTooFewBytes :
    decode [0x20, 0x34, 0x12] = .ok (.jsr 0x1234, []) ∧ opcodeLength 0x20 = [0x34, 0x12].length + 1 ∧
    decode [0x20, 0x34] = .error (.truncated 0x20) ∧ ¬opcodeLength 0x20 ≤ [(0x34 : Byte)].length + 1 :=
  ⟨rfl, by decide, rfl, by decide⟩

theorem witness_StepRunsDecodedInstruction_inputs :
    let s := { busy with p := { busy.p with i := true },
                         env := [{ Inputs.idle with irqLow := true, soEdge := true, writes := [(0x0201, 0x7F)] }] }
    s.run = .running ∧ s.inputs.reset = false ∧ s.inputs.rdyLow = false ∧ s.arrive.nmiPending = false ∧
    (s.inputs.irqLow = false ∨ s.arrive.p.i = true) ∧
    decode [Memory.read s.arrive.mem s.pc, Memory.read s.arrive.mem (s.pc + 1), Memory.read s.arrive.mem (s.pc + 2)]
      = .ok (.ldaImm 0x7F, [0x00]) :=
  ⟨rfl, rfl, rfl, rfl, .inr rfl, rfl⟩

theorem witness_StepRunsDecodedInstruction_idle :
    let s := { busy with env := [] }
    s.run = .running ∧ s.env = [] ∧ s.nmiPending = false ∧
    decode [Memory.read s.mem s.pc, Memory.read s.mem (s.pc + 1),
    Memory.read s.mem (s.pc + 2)] = .ok (.ldaImm 0x80, [0x00]) :=
  ⟨rfl, rfl, rfl, rfl⟩

/-- An instruction at $FFFF takes its operand from $0000. -/
theorem witness_StepRunsDecodedInstruction_wrap :
    let s := { base with pc := 0xFFFF, mem := stored [(0xFFFF, 0xA9), (0x0000, 0x42)] }
    s.run = .running ∧ s.env = [] ∧ s.nmiPending = false ∧
    decode [Memory.read s.mem s.pc, Memory.read s.mem (s.pc + 1),
    Memory.read s.mem (s.pc + 2)] = .ok (.ldaImm 0x42, [0x00]) :=
  ⟨rfl, rfl, rfl, rfl⟩

theorem witness_StepKeepsMemoryCanonical : Inv busy ∧ ∃ t, step busy = .next t ∧ t.mem ≠ busy.mem :=
  ⟨by unfold Inv; decide, _, rfl, by decide⟩

theorem witness_CanonicalMemoryIsDetermined :
    let m : Memory := [(0x0010, 5), (0xFFFF, 6)]
    let n : Memory := stored [(0xFFFF, 6), (0x0010, 4), (0x0010, 5)]
    m.wf ∧ n.wf ∧ ∀ a : Addr, Memory.read m a = Memory.read n a :=
  ⟨by decide, by decide, fun _ => rfl⟩

/-- While running: an SO- edge and an NMI- edge, an address not written, an address written twice. -/
theorem witness_InputsArrive :
    busy.run ≠ .stopped ∧ busy.inputs.soEdge = true ∧ busy.inputs.nmiEdge = true ∧
    (∀ w ∈ busy.inputs.writes, w.1 ≠ 0x0011) :=
  ⟨by decide, rfl, rfl, by simp [busy, State.inputs]⟩

/-- The last clause, for each of two addresses: the last write of the list, and a write with a later one to the other address. -/
theorem witness_InputsArrive_writes :
    (busy.inputs.writes = [(0x0010, 0x01), (0x0012, 0x03)] ++ (0x0010, 0x02) :: [] ∧
      ∀ w ∈ ([] : List (Addr × Byte)), w.1 ≠ 0x0010) ∧
    busy.inputs.writes = [(0x0010, 0x01)] ++ (0x0012, 0x03) :: [(0x0010, 0x02)] ∧
      ∀ w ∈ ([(0x0010, 0x02)] : List (Addr × Byte)), w.1 ≠ 0x0012 :=
  ⟨⟨rfl, by simp⟩, rfl, by simp⟩

theorem witness_InputsArrive_stopped :
    let s := { busy with run := .stopped }
    s.run = .stopped ∧ s.inputs.soEdge = true ∧ s.inputs.nmiEdge = true := by decide

/-- Reset together with RDY low, an NMI pending, and an IRQ. -/
theorem witness_ResetEvent :
    let s := { busy with run := .stopped, nmiPending := true,
                         env := [{ Inputs.idle with reset := true, rdyLow := true, irqLow := true }] }
    s.inputs.reset = true := rfl

theorem witness_NmiTaken :
    busy.inputs.reset = false ∧ busy.inputs.rdyLow = false ∧ busy.run ≠ .stopped ∧
    busy.arrive.nmiPending = true := by decide

/-- From WAITING and with S = $00, so that the pushes wrap inside page one. -/
theorem witness_NmiTaken_waiting :
    let s := { busy with run := .waiting, sp := 0x00 }
    s.inputs.reset = false ∧ s.inputs.rdyLow = false ∧ s.run ≠ .stopped ∧ s.arrive.nmiPending = true := by decide

theorem witness_IrqTaken :
    let s := { busy with env := [{ Inputs.idle with irqLow := true }] }
    s.inputs.reset = false ∧ s.inputs.rdyLow = false ∧ s.run ≠ .stopped ∧ s.arrive.nmiPending = false ∧
    s.inputs.irqLow = true ∧ s.p.i = false := by decide

theorem witness_MaskedIrqChangesNothing :
    let s := { busy with p := { busy.p with i := true } }
    s.run = .running ∧ s.p.i = true := by decide

theorem witness_WaitingAndStoppedLast_stopped :
    let s := { busy with run := .stopped }
    s.run = .stopped ∧ (∀ inp ∈ s.env, inp.reset = false) ∧ Reaches s { s with env := [], mem := s.arrive.mem } :=
  ⟨rfl, by decide, .next .here rfl⟩

theorem witness_WaitingAndStoppedLast_waiting :
    let s := { busy with run := .waiting, env := [{ Inputs.idle with soEdge := true, writes := [(0x0010, 0x02)] }] }
    s.run = .waiting ∧ s.nmiPending = false ∧
    (∀ inp ∈ s.env, inp.reset = false ∧ inp.nmiEdge = false ∧ inp.irqLow = false) ∧
    Reaches s { s with env := [], mem := s.arrive.mem, p := { s.p with v := true } } :=
  ⟨rfl, rfl, by decide, .next .here rfl⟩

theorem witness_WaitingAndStoppedLast_maskedIrq :
    let s := { base with run := .waiting, p := { base.p with i := true }, env := [{ Inputs.idle with irqLow := true }] }
    s.run = .waiting ∧ s.inputs.reset = false ∧ s.inputs.rdyLow = false ∧ s.arrive.nmiPending = false ∧
    s.inputs.irqLow = true ∧ s.p.i = true := by decide

theorem witness_RdyLowHalts :
    let s := { busy with env := [{ Inputs.idle with rdyLow := true, nmiEdge := true, irqLow := true }] }
    s.inputs.reset = false ∧ s.inputs.rdyLow = true := by decide

theorem witness_NmiThenRtiResumes :
    let s := { base with nmiPending := true, p := ⟨true, false, true, false, false, true⟩,
                         mem := stored [(0xFFFB, 0xA0), (0xA000, 0x40)] }
    s.run = .running ∧ s.env = [] ∧ s.nmiPending = true ∧ (0xA000 : Addr).toNat = wordAt s 0xFFFA ∧
    Memory.read s.mem 0xA000 = 0x40 ∧ (0xA000 : Addr) ∉ pushedCells s ∧ ∀ c ∈ pushedCells s, Ram s c :=
  ⟨rfl, rfl, rfl, by decide, by decide, by decide, fun _ _ => rfl⟩

/-- On a board with ROM above the stack, and with S = $00, so that the stack locations wrap inside page one. -/
theorem witness_RtiUndoesInterrupt :
    let s := { base with board := romBoard, sp := 0x00 }
    ∀ c ∈ pushedCells s, Ram s c := by
  intro s c h
  simp only [pushedCells, List.mem_cons, List.not_mem_nil, or_false] at h
  rcases h with rfl | rfl | rfl <;> exact rfl
theorem witness_RtsUndoesJsr :
    let s := { base with board := romBoard, sp := 0x00 }
    Ram s (stackAddr s.sp) ∧ Ram s (stackAddr (s.sp - 1)) := by unfold Ram; decide
theorem witness_PullUndoesPush : Ram { base with board := romBoard, sp := 0x00 } (stackAddr 0x00) := by unfold Ram; decide

/-! The first and the last form of each list. -/

theorem witness_LdaResult : (Instr.ldaImm 1, Source.imm 1) ∈ ldaForms 1 2 3 ∧
    (Instr.ldaZpind 2, Source.mem (.zpind 2)) ∈ ldaForms 1 2 3 := by
  decide
theorem witness_LdxLdyResult : (Instr.ldxAbsy 3, Source.mem (.absy 3)) ∈ ldxForms 1 2 3 ∧
    (Instr.ldyAbsx 3, Source.mem (.absx 3)) ∈ ldyForms 1 2 3 := by
  decide
theorem witness_StaStzResult :
    (Instr.staZp 2, MemMode.zp 2, base.a) ∈ staStzForms 2 3 base ∧
    (Instr.stzAbsx 3, MemMode.absx 3, 0) ∈ staStzForms 2 3 base := by decide
theorem witness_StxStyResult :
    (Instr.stxZp 2, MemMode.zp 2, base.x, [0x86, 2], 3) ∈ stxStyForms 2 3 base ∧
    (Instr.styAbs 3, MemMode.abs 3, base.y, [0x8C, 3, 0], 4) ∈ stxStyForms 2 3 base := by decide
theorem witness_AdcBinaryResult :
    (Instr.adcImm 1, Source.imm 1) ∈ adcForms 1 2 3 ∧ (Instr.adcZpind 2, Source.mem (.zpind 2)) ∈ adcForms 1 2 3 ∧
    base.p.d = false := by
  decide
theorem witness_AdcDecimalResult :
    let s := { base with a := 0x99, p := { base.p with d := true, c := true } }
    (Instr.adcImm 0x99, Source.imm 0x99) ∈ adcForms 0x99 2 3 ∧ s.p.d = true ∧ validBcd s.a.toNat ∧
    validBcd (operandOf (.imm 0x99) s) := by
  unfold validBcd; decide
theorem witness_SbcBinaryResult :
    (Instr.sbcImm 1, Source.imm 1) ∈ sbcForms 1 2 3 ∧ (Instr.sbcZpind 2, Source.mem (.zpind 2)) ∈ sbcForms 1 2 3 ∧
    base.p.d = false := by
  decide
theorem witness_SbcDecimalResult :
    let s := { base with a := 0x00, p := { base.p with d := true } }
    (Instr.sbcImm 0x99, Source.imm 0x99) ∈ sbcForms 0x99 2 3 ∧ s.p.d = true ∧ validBcd s.a.toNat ∧
    validBcd (operandOf (.imm 0x99) s) := by
  unfold validBcd; decide
/-- The first byte that is not valid BCD, in A and in the operand. -/
theorem witness_InvalidDecimalCompletes :
    let s := { base with a := 0x09, p := { base.p with d := true } }
    let t := { s with a := 0xA0 }
    (Instr.adcImm 0x0A, Source.imm 0x0A) ∈ adcForms 0x0A 2 3 ++ sbcForms 0x0A 2 3 ∧
    (Instr.sbcImm 0x0A, Source.imm 0x0A) ∈ adcForms 0x0A 2 3 ++ sbcForms 0x0A 2 3 ∧ s.p.d = true ∧
    ¬(validBcd s.a.toNat ∧ validBcd (operandOf (.imm 0x0A) s)) ∧ ¬(validBcd t.a.toNat ∧
    validBcd (operandOf (.imm 0x09) t)) := by
  unfold validBcd; decide
theorem witness_CompareResult :
    (Instr.cmpImm 1, Source.imm 1, base.a) ∈ compareForms 1 2 3 base ∧
    (Instr.cpyAbs 3, Source.mem (.abs 3), base.y) ∈ compareForms 1 2 3 base := by
  decide
theorem witness_IncDecResult :
    (incDecForms 2 3).head?.map (fun f => (f.1, f.2.1)) = some (.incAcc, .acc) ∧
    (incDecForms 2 3).getLast?.map (fun f => (f.1, f.2.1)) = some (.decAbsx 3, .mem (.absx 3)) := by decide
theorem witness_AndOraEorResult :
    (Instr.andImm 1, Source.imm 1) ∈ andForms 1 2 3 ∧ (Instr.oraAbs 3, Source.mem (.abs 3)) ∈ oraForms 1 2 3 ∧
    (Instr.eorZpind 2, Source.mem (.zpind 2)) ∈ eorForms 1 2 3 := by decide
theorem witness_BitResult : (Instr.bitZp 2, MemMode.zp 2) ∈ bitForms 2 3 ∧
    (Instr.bitAbsx 3, MemMode.absx 3) ∈ bitForms 2 3 := by decide
theorem witness_TrbTsbResult :
    (trbTsbForms 2 3).head?.map (fun f => (f.1, f.2.1)) = some (.trbZp 2, .zp 2) ∧
    (trbTsbForms 2 3).getLast?.map (fun f => (f.1, f.2.1)) = some (.tsbAbs 3, .abs 3) := by decide
theorem witness_ShiftResult :
    (shiftForms 2 3).head?.map (fun f => (f.1, f.2.1)) = some (.aslAcc, .acc) ∧
    (shiftForms 2 3).getLast?.map (fun f => (f.1, f.2.1)) = some (.rorAbsx 3, .mem (.absx 3)) := by decide
/-- One branch taken, one not taken. -/
theorem witness_BranchResult : (Instr.bcc 0x80, true) ∈ branchForms 0x80 base.p ∧
    (Instr.bvs 0x7F, false) ∈ branchForms 0x7F base.p := by
  decide
theorem witness_NoOperationResult : Instr.nop ∈ noOperations 1 2 ∧ Instr.rsvFC 1 2 ∈ noOperations 1 2 ∧
    Instr.rsvFF ∈ noOperations 1 2 := by
  decide

/-! Steps that change each register, and each flag. -/

/-- One instruction that changes A, one X, one Y, one S, one memory, one the run state. -/
theorem witness_RegisterAndMemoryWriters :
    (∃ t, exec (.ldaImm 1) base = .next t ∧ t.a ≠ base.a) ∧ (∃ t, exec .dex base = .next t ∧ t.x ≠ base.x) ∧
    (∃ t, exec .iny base = .next t ∧ t.y ≠ base.y) ∧ (∃ t, exec .php base = .next t ∧ t.sp ≠ base.sp) ∧
    (∃ t, exec .php base = .next t ∧ ¬BytesKept [] base t) ∧ ∃ t, exec .stp base = .next t ∧ t.run ≠ base.run :=
  ⟨⟨_, rfl, by decide⟩, ⟨_, rfl, by decide⟩, ⟨_, rfl, by decide⟩, ⟨_, rfl, by decide⟩,
    ⟨_, rfl, fun h => absurd (h 0x01FF (by simp)) (by decide)⟩, ⟨_, rfl, by decide⟩⟩

theorem witness_FlagWriters :
    ∃ t, exec .rti { base with mem := stored [(0x0100, 0xFF)] } = .next t ∧
      t.p.n ≠ base.p.n ∧ t.p.v ≠ base.p.v ∧ t.p.d ≠ base.p.d ∧ t.p.i ≠ base.p.i ∧ t.p.z ≠ base.p.z ∧ t.p.c ≠ base.p.c :=
  ⟨_, rfl, by decide⟩

theorem witness_DecimalFlagMattersOnlyToAddSub :
    (Instr.incAcc).op ∉ ([.adc, .sbc, .php, .brk] : List Op) ∧ ∃ t, exec .incAcc { base with a := 0x09 } = .next t ∧
    t.a = 0x0A :=
  ⟨by decide, _, rfl, by decide⟩

theorem witness_SbcIsAdcOfComplement : base.p.d = false := rfl

/-- Two bytes that differ in bits 4 and 5 only. -/
theorem witness_StatusByteRoundTrip_unstoredBits :
    ∀ k : Nat, k ≠ 4 → k ≠ 5 → (0x30 : Byte).toNat.testBit k = (0x00 : Byte).toNat.testBit k := by
  intro k h4 h5
  rcases Nat.lt_or_ge k 8 with h | h
  · interval_cases k <;> first | rfl | contradiction
  · rw [Nat.testBit_lt_two_pow, Nat.testBit_lt_two_pow]
    · exact lt_of_lt_of_le (by decide) (Nat.pow_le_pow_right (by decide) h)
    · exact lt_of_lt_of_le (by decide) (Nat.pow_le_pow_right (by decide) h)

theorem witness_StatusByteRoundTrip_image :
    (0xB9 : Byte).toNat = imageOf ⟨true, false, true, false, false, true⟩ true := by decide

/-- A location of RAM, and one that is not: the top of the stack page, and the first address of ROM. -/
theorem witness_RegisterAndMemoryWriters_others : Ram { base with board := romBoard } 0x01FF ∧
    ¬Ram { base with board := romBoard } 0x8000 := by
  unfold Ram; decide

/-- The first and the last of the forms. -/
theorem witness_PcAdvances : Instr.stxZp 2 ∈ pcForms 2 3 ∧ Instr.sed ∈ pcForms 2 3 := by decide

/-- A cycle with ML- low, and a cycle with VP- low. -/
theorem witness_BusCyclesMatchCount :
    (∃ c ∈ busCycles (.incZp 0x44) base, c.mlLow = true) ∧ ∃ c ∈ busCycles (.brk 0) base, c.vpLow = true := by decide

theorem witness_BusWritesAreTheStores :
    ∃ t, exec (.staZp 0x44) { base with a := 0x5A } = .next t ∧
      (∃ c ∈ busCycles (.staZp 0x44) { base with a := 0x5A }, c.wrote = some 0x5A ∧ Ram base c.addr) ∧
      Memory.read t.mem 0x0044 ≠ Memory.read base.mem 0x0044 :=
  ⟨_, rfl, by unfold Ram; decide, by decide⟩

end Sys2Proof.Tests
end

section
/-! PROOFS of the statements of the family 10_state: the status byte and the advance of PC. -/

namespace Sys2Proof.Proofs

open Machine Stmt

/-! The status byte (10_state R35, R36). -/

/-- A flag of LoadP is a binary digit of the pulled byte's number (10_state R36). -/
theorem loadP_eq_testBit (v : Byte) : loadP v = ⟨v.toNat.testBit 7, v.toNat.testBit 6, v.toNat.testBit 3,
    v.toNat.testBit 2, v.toNat.testBit 1, v.toNat.testBit 0⟩ := rfl

/-- Bits 5 and 4 are not among the digits that LoadP reads. -/
theorem loadP_congr {v w : Byte} (h : ∀ k : Nat, k ≠ 4 → k ≠ 5 → v.toNat.testBit k = w.toNat.testBit k) :
    loadP v = loadP w := by
  simp only [loadP_eq_testBit, h 7 (by decide) (by decide), h 6 (by decide) (by decide), h 3 (by decide) (by decide),
    h 2 (by decide) (by decide), h 1 (by decide) (by decide), h 0 (by decide) (by decide)]

/-- The pushed number is the binary numeral whose digits, from bit 0 up, are C, Z, I, D, B, 1, V and N (10_state R35). -/
theorem imageOf_eq_bit (p : Status) (b : Bool) : imageOf p b =
    Nat.bit p.c (Nat.bit p.z (Nat.bit p.i (Nat.bit p.d (Nat.bit b (Nat.bit true (Nat.bit p.v (Nat.bit p.n 0))))))) := by
  simp only [imageOf, Nat.bit_val, Bool.toNat_true]
  omega

/-- Loading the image of a P gives that P back, whatever bit 4 is. -/
theorem loadP_of_toNat_eq_imageOf {p : Status} {b : Bool} {v : Byte} (h : v.toNat = imageOf p b) : loadP v = p := by
  simp only [loadP_eq_testBit, h, imageOf_eq_bit, Nat.testBit_bit_zero, Nat.testBit_bit_succ]

/-- Settles O57, one lemma per clause. -/
theorem statusByteRoundTrip : Obligations.StatusByteRoundTrip :=
  ⟨loadP_eq_testBit, fun _ _ => loadP_congr, fun _ _ _ => loadP_of_toNat_eq_imageOf⟩

/-! The advance of PC (10_state R25). -/

/-- The fetch of `n` bytes moves PC by `n` modulo 65536 (10_state R25; 92 D2). -/
theorem advance_pc_toNat (s : State) (n : Nat) : (s.advance n).pc.toNat = (s.pc.toNat + n) % 65536 := by
  simp only [State.advance_pc, BitVec.toNat_add, BitVec.toNat_ofNat, Nat.reducePow, Nat.add_mod_mod]

/-- An instruction that leaves PC where its fetch put it stands past its own bytes. -/
theorem runs_pcPast {i : Instr} {s t : State} (he : exec i s = .next t) (hpc : t.pc = (s.advance i.length).pc) :
    Runs i s (PcPast i s) :=
  ⟨t, he, by rw [PcPast, hpc, advance_pc_toNat]⟩

/-- A store of a byte moves PC by its fetch only. -/
theorem runs_pcPast_of_storeByte {i : Instr} {s : State} {m : MemMode} {v : Byte}
    (he : exec i s = .next (storeByte m v s)) (hl : i.length = m.length) : Runs i s (PcPast i s) :=
  runs_pcPast he (by rw [storeByte_eq, hl, State.advance_pc])

/-- A read-modify-write of memory moves PC by its fetch only. -/
theorem runs_pcPast_of_rmw {i : Instr} {s : State} {m : MemMode} {f : Byte → Status → Byte × Status}
    (he : exec i s = .next (rmw (.mem m) f s)) (hl : i.length = m.length) : Runs i s (PcPast i s) :=
  runs_pcPast he (by rw [rmw_mem_eq, hl, State.advance_pc])

/-- STX and STY. -/
theorem storeForms_pcPast (s : State) (z : Byte) (b : Addr) :
    ∀ i ∈ [Instr.stxZp z, .stxZpy z, .stxAbs b, .styZp z, .styZpx z, .styAbs b], Runs i s (PcPast i s) := by
  intro i hi
  fin_cases hi <;> exact runs_pcPast_of_storeByte rfl rfl

/-- TAX, TAY, TXA, TYA and TSX: a register, and the flags N and Z. -/
theorem transferForms_pcPast (s : State) : ∀ i ∈ [Instr.tax, .tay, .txa, .tya, .tsx], Runs i s (PcPast i s) := by
  intro i hi
  fin_cases hi <;> exact runs_pcPast rfl (State.setNZ_pc _ _)

/-- TXS writes S and no flag. -/
theorem txs_pcPast (s : State) : Runs .txs s (PcPast .txs s) := runs_pcPast rfl (State.setSp_pc _ _)

/-- INX, INY, DEX and DEY: an index register, and the flags N and Z. -/
theorem indexForms_pcPast (s : State) : ∀ i ∈ [Instr.inx, .iny, .dex, .dey], Runs i s (PcPast i s) := by
  intro i hi
  fin_cases hi <;> exact runs_pcPast rfl (State.setNZ_pc _ _)

/-- TRB and TSB. -/
theorem rmwForms_pcPast (s : State) (z : Byte) (b : Addr) :
    ∀ i ∈ [Instr.trbZp z, .trbAbs b, .tsbZp z, .tsbAbs b], Runs i s (PcPast i s) := by
  intro i hi
  fin_cases hi <;> exact runs_pcPast_of_rmw rfl rfl

/-- PHA, PHX, PHY and PHP. -/
theorem pushForms_pcPast (s : State) : ∀ i ∈ [Instr.pha, .phx, .phy, .php], Runs i s (PcPast i s) := by
  intro i hi
  fin_cases hi <;> exact runs_pcPast rfl (State.push_pc _ _)

/-- PLA, PLX and PLY: a pull, a register, and the flags N and Z. -/
theorem pullForms_pcPast (s : State) : ∀ i ∈ [Instr.pla, .plx, .ply], Runs i s (PcPast i s) := by
  intro i hi
  fin_cases hi <;> exact runs_pcPast rfl (State.setNZ_pc _ _)

/-- CLC, CLD, CLV, SEC and SED. -/
theorem flagForms_pcPast (s : State) : ∀ i ∈ [Instr.clc, .cld, .clv, .sec, .sed], Runs i s (PcPast i s) := by
  intro i hi
  fin_cases hi <;> exact runs_pcPast rfl (State.setP_pc _ _)

/-- Settles O60: the forms are those of the families above, in this order. -/
theorem pcAdvances : Obligations.PcAdvances := by
  intro s z b
  refine List.forall_mem_append.mpr ⟨storeForms_pcPast s z b, ?_⟩
  refine List.forall_mem_append.mpr ⟨transferForms_pcPast s, ?_⟩
  refine List.forall_mem_cons.mpr ⟨txs_pcPast s, ?_⟩
  refine List.forall_mem_append.mpr ⟨indexForms_pcPast s, ?_⟩
  refine List.forall_mem_append.mpr ⟨rmwForms_pcPast s z b, ?_⟩
  refine List.forall_mem_append.mpr ⟨pushForms_pcPast s, ?_⟩
  exact List.forall_mem_append.mpr ⟨pullForms_pcPast s, flagForms_pcPast s⟩

end Sys2Proof.Proofs
end

section
/-! PROOFS of the statements of the family 30_encoding: encodings the spec writes out. -/

namespace Sys2Proof.Proofs

open Machine Stmt

/-- A string exactly as long as the instruction of its opcode decodes to that instruction, and no byte is left
(30_encoding R80, R89). -/
theorem decode_eq_ok_of_length {op : Byte} {rest : List Byte} {i : Instr}
    (hi : decodeAt op (rest.getD 0 0) (rest.getD 1 0) = i) (hl : i.length = rest.length + 1) :
    decode (op :: rest) = .ok (i, []) := by
  simp only [decode, hi, hl, Nat.lt_irrefl, if_false, Nat.add_sub_cancel, List.drop_length]

/-- Settles O4: each clause is the opcode's cell of the matrix with its operand bytes put in, low byte first, and the
instruction's length. -/
theorem specEncodingsDecode : Obligations.SpecEncodingsDecode := by
  refine ⟨?_, ?_, ?_, ?_, ?_, ?_, ?_, ?_, ?_, ?_, ?_, ?_⟩ <;> exact decode_eq_ok_of_length rfl rfl

end Sys2Proof.Proofs
end

section
/-! PROOFS of the statements of the family 41_load_store_transfer: STX, STY and the register transfers. -/

namespace Sys2Proof.Proofs

open Machine Stmt

/-! Stores (41_load_store_transfer R134, R135). -/

/-- An index addition in page zero wraps there (40_addressing_modes R111, R112). -/
theorem zext_add_toNat (z w : Byte) : (zext (z + w)).toNat = (z.toNat + w.toNat) % 256 := by
  simp only [zext_toNat, BitVec.toNat_add, Nat.reducePow]

/-- Where the stored byte lands in RAM it reads back (20_memory R53). -/
theorem read_storeByte_ram {m : MemMode} {s : State} (h : Ram s (effAddr m s)) (v : Byte) :
    Memory.read (storeByte m v s).mem (effAddr m s) = v :=
  Board.read_write_ram h s.mem v

/-- A store writes no byte outside its effective address. -/
theorem storeByte_bytesKept (m : MemMode) (v : Byte) (s : State) : BytesKept [effAddr m s] s (storeByte m v s) := by
  intro a ha
  exact Board.read_write_ne s.board s.mem (List.ne_of_not_mem_cons ha) v

/-- The effect and the frame of every instruction that is a store of one byte; PC is left open. -/
theorem runs_storeByte {i : Instr} {m : MemMode} {v : Byte} {s : State} (he : exec i s = .next (storeByte m v s)) :
    Runs i s fun t =>
      (Ram s (effAddr m s) → Memory.read t.mem (effAddr m s) = v) ∧ BytesKept [effAddr m s] s t ∧
      t = { s with pc := t.pc, mem := t.mem } :=
  ⟨storeByte m v s, he, fun h => read_storeByte_ram h v, storeByte_bytesKept m v s, storeByte_eq m v s⟩

/-- Settles O25, form by form in the table's order (STX zp, zp,Y, abs; STY zp, zp,X, abs): the bytes and the cycles are
those of the table, the address is the mode's, and the effect is that of a store. -/
theorem stxStyResult : Obligations.StxStyResult := by
  intro s z b f hf
  fin_cases hf
  · exact ⟨rfl, rfl, zext_toNat z, runs_storeByte rfl⟩
  · exact ⟨rfl, rfl, zext_add_toNat z s.y, runs_storeByte rfl⟩
  · exact ⟨rfl, rfl, rfl, runs_storeByte rfl⟩
  · exact ⟨rfl, rfl, zext_toNat z, runs_storeByte rfl⟩
  · exact ⟨rfl, rfl, zext_add_toNat z s.x, runs_storeByte rfl⟩
  · exact ⟨rfl, rfl, rfl, runs_storeByte rfl⟩

/-! Register transfers (41_load_store_transfer R137 to R142). -/

/-- Bit 7 of a byte says that its number is 128 or more. -/
theorem getLsbD_seven (v : Byte) : v.getLsbD 7 = decide (128 ≤ v.toNat) :=
  v.msb_eq_getLsbD_last.symm.trans v.msb_eq_decide

/-- The model's SetNZ is that of the rule, on the number of the byte (00_scope R8). -/
theorem setNZ_eq_nzOf (p : Status) (v : Byte) : p.setNZ v = nzOf p v.toNat := by
  have hz : (v == 0) = decide (v.toNat = 0) := by
    rw [beq_eq_decide, decide_eq_decide, ← BitVec.toNat_inj]
    rfl
  rw [Status.setNZ, nzOf, getLsbD_seven, hz]

/-- An instruction that ends with SetNZ(v) leaves the flags of the number of `v`. -/
theorem runs_of_setNZ {i : Instr} {s r : State} {v : Byte} {post : State → Prop} (he : exec i s = .next (r.setNZ v))
    (h : post { r with p := nzOf r.p v.toNat }) : Runs i s post :=
  ⟨r.setNZ v, he, by rwa [State.setNZ, State.setP, setNZ_eq_nzOf]⟩

/-- Each transfer takes two cycles: registers only, so nothing adds to the base count (30_encoding R84). -/
theorem transfer_cycleCount (s : State) :
    ∀ i ∈ [Instr.tax, .tay, .txa, .tya, .tsx, .txs], cycleCount i s = 2 := by
  intro i hi
  fin_cases hi <;> rfl

/-- Settles O26: each transfer but TXS ends with SetNZ of the value copied, TXS writes S alone. -/
theorem transfersResult : Obligations.TransfersResult := by
  intro s
  refine ⟨⟨rfl, rfl, rfl, rfl, rfl, rfl⟩, transfer_cycleCount s, ?tax, ?tay, ?txa, ?tya, ?tsx, ?txs⟩
  case tax | tay | txa | tya | tsx => exact runs_of_setNZ rfl rfl
  case txs => exact ⟨(s.advance 1).setSp s.x, rfl, rfl⟩

end Sys2Proof.Proofs
end

section
/-! PROOFS of the statements of the family 42_arithmetic: binary addition and the index register steps. -/

namespace Sys2Proof.Proofs

open Machine Stmt

/-! Binary addition (42_arithmetic R150). -/

/-- The machine's signed reading of a byte is that of the rule. -/
theorem toInt_eq_signed (v : Byte) : v.toInt = signed v.toNat := by
  rw [BitVec.toInt_eq_toNat_cond, signed]
  split <;> split <;> omega

/-- A sum of two bytes and a carry needs nine bits at most. -/
theorem toNat_add_carry_le (a m : Byte) (c : Bool) : a.toNat + m.toNat + c.toNat ≤ 511 := by
  have hc := c.toNat_le
  omega

theorem addBin_r_toNat (a m : Byte) (c : Bool) : (addBin a m c).r.toNat = (a.toNat + m.toNat + c.toNat) % 256 :=
  BitVec.toNat_ofNat ..

theorem addBin_c_iff (a m : Byte) (c : Bool) : (addBin a m c).c = true ↔ 255 < a.toNat + m.toNat + c.toNat :=
  decide_eq_true_iff

theorem addBin_v_iff (a m : Byte) (c : Bool) : (addBin a m c).v = true ↔
    signed a.toNat + signed m.toNat + c.toNat < -128 ∨ 127 < signed a.toNat + signed m.toNat + c.toNat := by
  simp only [addBin, toInt_eq_signed, Bool.or_eq_true, decide_eq_true_eq]

/-- The bit form of overflow says that the result's sign differs from the sign of both operands. -/
theorem overflowBit_iff (a m r : Byte) : ((a ^^^ r) &&& (m ^^^ r)).getLsbD 7 = true ↔
    ¬(128 ≤ a.toNat ↔ 128 ≤ r.toNat) ∧ ¬(128 ≤ m.toNat ↔ 128 ≤ r.toNat) := by
  rw [BitVec.getLsbD_and, BitVec.getLsbD_xor, BitVec.getLsbD_xor]
  simp only [getLsbD_seven, Bool.and_eq_true, bne_iff_ne, ne_eq, decide_eq_decide]

/-- Overflow and its bit form: operands of different signs never overflow, and operands of one sign overflow exactly when
the result has the other sign. -/
theorem addBin_v_eq_overflowBit (a m : Byte) (c : Bool) :
    (addBin a m c).v = ((a ^^^ (addBin a m c).r) &&& (m ^^^ (addBin a m c).r)).getLsbD 7 := by
  rw [Bool.eq_iff_iff, addBin_v_iff, overflowBit_iff, addBin_r_toNat]
  have hc := c.toNat_le
  by_cases ha : a.toNat < 128 <;> by_cases hm : m.toNat < 128 <;>
    simp only [signed, ha, hm, if_true, if_false] <;> omega

/-- Settles O55, one lemma per clause. -/
theorem binaryAdditionHelper : Obligations.BinaryAdditionHelper := fun a m c =>
  ⟨toNat_add_carry_le a m c, addBin_r_toNat a m c, addBin_c_iff a m c, addBin_v_iff a m c,
    addBin_v_eq_overflowBit a m c⟩

/-! Steps of the index registers (42_arithmetic R161, R162, R164, R165). -/

/-- One more, modulo 256. -/
theorem toNat_add_one (v : Byte) : (v + 1).toNat = (v.toNat + 1) % 256 := BitVec.toNat_add v 1

/-- One less is 255 more, modulo 256. -/
theorem toNat_sub_one (v : Byte) : (v - 1).toNat = (v.toNat + 255) % 256 := by
  rw [BitVec.toNat_sub, Nat.add_comm v.toNat]
  rfl

/-- Each step takes two cycles: a register only, so nothing adds to the base count (30_encoding R84). -/
theorem indexStep_cycleCount (s : State) : ∀ i ∈ [Instr.inx, .iny, .dex, .dey], cycleCount i s = 2 := by
  intro i hi
  fin_cases hi <;> rfl

/-- Settles O34: each step fetches one byte, writes its register and ends with SetNZ of the value written. -/
theorem indexStepsResult : Obligations.IndexStepsResult := by
  intro s
  refine ⟨⟨rfl, rfl, rfl, rfl⟩, indexStep_cycleCount s, ?inx, ?iny, ?dex, ?dey⟩
  case inx => exact runs_of_setNZ rfl ⟨advance_pc_toNat s 1, toNat_add_one s.x, rfl⟩
  case iny => exact runs_of_setNZ rfl ⟨advance_pc_toNat s 1, toNat_add_one s.y, rfl⟩
  case dex => exact runs_of_setNZ rfl ⟨advance_pc_toNat s 1, toNat_sub_one s.x, rfl⟩
  case dey => exact runs_of_setNZ rfl ⟨advance_pc_toNat s 1, toNat_sub_one s.y, rfl⟩

end Sys2Proof.Proofs
end

section
/-! PROOFS of the statements of the family 43_logic: TRB and TSB. -/

namespace Sys2Proof.Proofs

open Machine Stmt

/-! Read-modify-write of memory, for any new byte and flags (44_shift_rotate R180). -/

/-- Where the new byte lands in RAM it reads back (20_memory R53). -/
theorem read_rmw_mem_ram {m : MemMode} {s : State} (h : Ram s (effAddr m s)) (f : Byte → Status → Byte × Status) :
    Memory.read (rmw (.mem m) f s).mem (effAddr m s) = (f (Memory.read s.mem (effAddr m s)) s.p).1 :=
  Board.read_write_ram h s.mem _

/-- A read-modify-write of memory writes no byte outside its effective address. -/
theorem rmw_mem_bytesKept (m : MemMode) (f : Byte → Status → Byte × Status) (s : State) :
    BytesKept [effAddr m s] s (rmw (.mem m) f s) := by
  intro a ha
  exact Board.read_write_ne s.board s.mem (List.ne_of_not_mem_cons ha) _

/-- The effect and the frame of every instruction that is a read-modify-write of memory; PC is left open. -/
theorem runs_rmw_mem {i : Instr} {m : MemMode} {f : Byte → Status → Byte × Status} {s : State}
    (he : exec i s = .next (rmw (.mem m) f s)) :
    Runs i s fun t =>
      (Ram s (effAddr m s) → Memory.read t.mem (effAddr m s) = (f (Memory.read s.mem (effAddr m s)) s.p).1) ∧
      BytesKept [effAddr m s] s t ∧
      t = { s with p := (f (Memory.read s.mem (effAddr m s)) s.p).2, pc := t.pc, mem := t.mem } :=
  ⟨rmw (.mem m) f s, he, fun h => read_rmw_mem_ram h f, rmw_mem_bytesKept m f s, rmw_mem_eq m f s⟩

/-! TRB and TSB (43_logic R174, R175). -/

/-- TRB clears the bits of A in the old byte, and Z says that they shared none. -/
theorem trbResult_eq (a m : Byte) (p : Status) : trbResult a m p = (m &&& ~~~a, { p with z := decide (a &&& m = 0) }) := by
  rw [trbResult, beq_eq_decide]

/-- TSB sets the bits of A in the old byte, and Z says that they shared none. -/
theorem tsbResult_eq (a m : Byte) (p : Status) : tsbResult a m p = (m ||| a, { p with z := decide (a &&& m = 0) }) := by
  rw [tsbResult, beq_eq_decide]

/-- The effect and the frame of a read-modify-write whose new byte is `g` of the old one, and that writes no flag but Z,
the test of the old byte against A. -/
theorem runs_rmw_mem_of_testA {i : Instr} {m : MemMode} {s : State} {f : Byte → Status → Byte × Status} {g : Byte → Byte}
    (hf : ∀ old p, f old p = (g old, { p with z := decide (s.a &&& old = 0) })) (he : exec i s = .next (rmw (.mem m) f s)) :
    Runs i s fun t =>
      let old := Memory.read s.mem (effAddr m s)
      (Ram s (effAddr m s) → Memory.read t.mem (effAddr m s) = g old) ∧ BytesKept [effAddr m s] s t ∧
      t = { s with p := { s.p with z := decide (s.a &&& old = 0) }, pc := t.pc, mem := t.mem } := by
  simpa only [hf] using runs_rmw_mem he

/-- Settles O37, form by form in the table's order (TRB zp, abs; TSB zp, abs): the bytes and the cycles are those of the
table, the address is the mode's, and the effect is that of a read-modify-write with the instruction's result. -/
theorem trbTsbResult : Obligations.TrbTsbResult := by
  intro s z b f hf
  fin_cases hf
  · exact ⟨rfl, rfl, zext_toNat z, runs_rmw_mem_of_testA (trbResult_eq s.a) rfl⟩
  · exact ⟨rfl, rfl, rfl, runs_rmw_mem_of_testA (trbResult_eq s.a) rfl⟩
  · exact ⟨rfl, rfl, zext_toNat z, runs_rmw_mem_of_testA (tsbResult_eq s.a) rfl⟩
  · exact ⟨rfl, rfl, rfl, runs_rmw_mem_of_testA (tsbResult_eq s.a) rfl⟩

end Sys2Proof.Proofs
end

section
/-! PROOFS of the statements of the family 46_jump_call: RTS. -/

namespace Sys2Proof.Proofs

open Machine Stmt

/-! Two pulls in a row (20_memory R59). -/

/-- S after two pulls: one step of two, modulo 256. -/
theorem byte_add_one_add_one (v : Byte) : v + 1 + 1 = v + 2 := BitVec.add_assoc v 1 1

/-- The byte of the second pull. -/
theorem pulled_pull (s : State) : s.pull.pulled = Memory.read s.mem (stackAddr (s.sp + 2)) :=
  congrArg (fun sp => Memory.read s.mem (stackAddr sp)) (byte_add_one_add_one s.sp)

/-- The number of the pulled word: the first byte pulled is its low byte (20_memory R54). -/
theorem pulledWord_toNat (s : State) : (mkAddr s.pull.pulled s.pulled).toNat =
    (Memory.read s.mem (stackAddr (s.sp + 2))).toNat * 256 + (Memory.read s.mem (stackAddr (s.sp + 1))).toNat := by
  rw [mkAddr_toNat, pulled_pull]
  rfl

/-! RTS (46_jump_call R207). -/

/-- PC after RTS: one more than the pulled word, modulo 65536. -/
theorem returnFromSubroutine_pc_toNat (s : State) :
    (returnFromSubroutine s).pc.toNat = ((mkAddr s.pull.pulled s.pulled).toNat + 1) % 65536 :=
  BitVec.toNat_add _ 1

/-- RTS writes S and PC, and nothing else. -/
theorem returnFromSubroutine_frame (s : State) :
    returnFromSubroutine s = { s with sp := s.sp + 2, pc := (returnFromSubroutine s).pc } := by
  rw [returnFromSubroutine_eq, byte_add_one_add_one]

/-- The sixth cycle of RTS is an internal read at the pulled word (70_reset_and_hazards R316). -/
theorem rts_sixthCycle (s : State) : (busCycles .rts s)[5]? = some (ioCycle (mkAddr s.pull.pulled s.pulled)) := rfl

/-- The fetch moves PC only, so the bytes pulled are those of the state before it. -/
theorem runs_rts (s : State) : Runs .rts s fun t =>
    t.pc.toNat = ((mkAddr s.pull.pulled s.pulled).toNat + 1) % 65536 ∧ t = { s with sp := s.sp + 2, pc := t.pc } :=
  ⟨returnFromSubroutine (s.advance 1), rfl, returnFromSubroutine_pc_toNat (s.advance 1),
    returnFromSubroutine_frame (s.advance 1)⟩

/-- Settles O42: the byte and the cycles are those of the table, and the sixth cycle and the effect are stated about the
pulled word, whose number is that of its two bytes. -/
theorem rtsResult : Obligations.RtsResult := by
  intro s
  refine ⟨rfl, rfl, ?sixthCycle, ?effect⟩
  case sixthCycle =>
    rw [List.getElem?_map, rts_sixthCycle, ← pulledWord_toNat]
    rfl
  case effect =>
    rw [← pulledWord_toNat]
    exact runs_rts s

end Sys2Proof.Proofs
end

section
/-! PROOFS of the statements of the family 47_stack: the pushes and the pulls of a register. -/

namespace Sys2Proof.Proofs

open Machine Stmt

/-! Pushes (47_stack R215, R217, R219, R221). -/

/-- The image of P fits in a byte. -/
theorem imageOf_lt (p : Status) (b : Bool) : imageOf p b < 256 := by
  have hn := p.n.toNat_le
  have hv := p.v.toNat_le
  have hb := b.toNat_le
  have hd := p.d.toNat_le
  have hi := p.i.toNat_le
  have hz := p.z.toNat_le
  have hc := p.c.toNat_le
  rw [imageOf]
  omega

/-- The byte pushed for P is that of the rule (10_state R35). -/
theorem image_toNat (p : Status) (b : Bool) : (p.image b).toNat = imageOf p b :=
  (BitVec.toNat_ofNat ..).trans (Nat.mod_eq_of_lt (imageOf_lt p b))

/-- Where the pushed byte lands in RAM it reads back (20_memory R53). -/
theorem read_push_ram {s : State} (h : Ram s (stackAddr s.sp)) (v : Byte) :
    Memory.read (s.push v).mem (stackAddr s.sp) = v :=
  Board.read_write_ram h s.mem v

/-- A push writes no byte outside its stack location. -/
theorem push_bytesKept (s : State) (v : Byte) : BytesKept [stackAddr s.sp] s (s.push v) := by
  intro a ha
  exact Board.read_write_ne s.board s.mem (List.ne_of_not_mem_cons ha) v

/-- S after a push: one lower, modulo 256 (20_memory R58). -/
theorem push_sp_toNat (s : State) (v : Byte) : (s.push v).sp.toNat = (s.sp.toNat + 255) % 256 := toNat_sub_one s.sp

/-- The effect and the frame of every one-byte instruction that pushes the byte of number `n`: the fetch moves PC only, so
the push is that of the state before it. -/
theorem runs_push {i : Instr} {s : State} {v : Byte} {n : Nat} (hv : v.toNat = n)
    (he : exec i s = .next ((s.advance 1).push v)) :
    Runs i s fun t =>
      (Ram s (stackAddr s.sp) → (Memory.read t.mem (stackAddr s.sp)).toNat = n) ∧ BytesKept [stackAddr s.sp] s t ∧
      t.sp.toNat = (s.sp.toNat + 255) % 256 ∧ t = { s with sp := t.sp, pc := t.pc, mem := t.mem } :=
  ⟨(s.advance 1).push v, he, fun h => (congrArg BitVec.toNat (read_push_ram (s := s.advance 1) h v)).trans hv,
    push_bytesKept (s.advance 1) v, push_sp_toNat (s.advance 1) v, rfl⟩

/-- Settles O44, form by form (PHA, PHX, PHY, PHP): the bytes and the cycles are those of the table, and each instruction is
the push of its byte, for PHP the image of P. -/
theorem pushResult : Obligations.PushResult := by
  intro s
  refine ⟨⟨rfl, rfl, rfl, rfl⟩, stackAddr_toNat s.sp, ?_⟩
  intro f hf
  fin_cases hf
  · exact ⟨rfl, runs_push rfl rfl⟩
  · exact ⟨rfl, runs_push rfl rfl⟩
  · exact ⟨rfl, runs_push rfl rfl⟩
  · exact ⟨rfl, runs_push (image_toNat s.p true) rfl⟩

/-! Pulls (47_stack R216, R220, R222). -/

/-- The location of a pull: one above S, where S wraps inside page one (20_memory R59). -/
theorem stackAddr_add_one (sp : Byte) : stackAddr (sp + 1) = BitVec.ofNat 16 (256 + (sp.toNat + 1) % 256) := by
  rw [← toNat_add_one, ← stackAddr_toNat, BitVec.ofNat_toNat, BitVec.setWidth_eq]

/-- The byte of a pull, at the number of its location. -/
theorem pulled_eq (s : State) : s.pulled = Memory.read s.mem (BitVec.ofNat 16 (256 + (s.sp.toNat + 1) % 256)) :=
  congrArg (Memory.read s.mem) (stackAddr_add_one s.sp)

/-- S after a pull: one higher, modulo 256 (20_memory R59). -/
theorem pull_sp_toNat (s : State) : s.pull.sp.toNat = (s.sp.toNat + 1) % 256 := toNat_add_one s.sp

/-- Each pull takes four cycles: nothing adds to the base count (30_encoding R84). -/
theorem pull_cycleCount (s : State) : ∀ i ∈ [Instr.pla, .plx, .ply], cycleCount i s = 4 := by
  intro i hi
  fin_cases hi <;> rfl

/-- Settles O45: each pull fetches one byte, writes the pulled byte to its register and ends with SetNZ of that byte. -/
theorem pullResult : Obligations.PullResult := by
  intro s
  rw [← pulled_eq]
  refine ⟨⟨rfl, rfl, rfl⟩, pull_cycleCount s, ?pla, ?plx, ?ply⟩
  case pla | plx | ply => exact runs_of_setNZ rfl ⟨rfl, pull_sp_toNat s, rfl⟩

end Sys2Proof.Proofs
end

section
/-! PROOFS of the statements of the family 48_status_flags: CLC, CLD, CLV, SEC and SED. -/

namespace Sys2Proof.Proofs

open Machine Stmt

/-- The effect and the frame of every instruction that writes P and nothing else: the fetch moves PC past the
instruction. -/
theorem runs_setP {i : Instr} {s : State} {p : Status} (he : exec i s = .next ((s.advance i.length).setP p)) :
    Runs i s fun t => PcPast i s t ∧ t = { s with p := p, pc := t.pc } :=
  ⟨(s.advance i.length).setP p, he, advance_pc_toNat s i.length, rfl⟩

/-- Each flag instruction takes two cycles: P only, so nothing adds to the base count (30_encoding R84). -/
theorem flagInstruction_cycleCount (s : State) :
    ∀ i ∈ [Instr.clc, .cld, .clv, .sec, .sed], cycleCount i s = 2 := by
  intro i hi
  fin_cases hi <;> rfl

/-- Settles O47: the bytes are those of the table, and each instruction fetches one byte and writes P with its one flag
replaced. -/
theorem flagInstructionsResult : Obligations.FlagInstructionsResult := by
  intro s
  refine ⟨⟨rfl, rfl, rfl, rfl, rfl⟩, flagInstruction_cycleCount s, ?clc, ?cld, ?clv, ?sec, ?sed⟩
  case clc | cld | clv | sec | sed => exact runs_setP rfl

end Sys2Proof.Proofs
end

section
/-! PROOFS of the statements about the decoder (30_encoding): the two round trips and the length rule. -/

namespace Sys2Proof.Proofs

open Machine Stmt

/-! From the instruction to its bytes and back (30_encoding R85, R119). -/

/-- Every encoding is one whole instruction of its own length (30_encoding R82, R89). -/
theorem encoding_statement (i : Instr) : Laws.Encoding.Statement i := by
  cases i <;> exact ⟨rfl, rfl⟩

/-- The cell of an encoding's opcode, given the operand bytes, is the instruction encoded: an address operand is split into
its bytes and put together again, any other operand is a byte of its own. -/
theorem decodeAt_of_encode (i : Instr) (rest : List Byte) : ∃ op operands, encode i = op :: operands ∧
    decodeAt op ((operands ++ rest).getD 0 0) ((operands ++ rest).getD 1 0) = i := by
  cases i with
  | ldaAbs b | ldaAbsx b | ldaAbsy b | ldxAbs b | ldxAbsy b | ldyAbs b | ldyAbsx b | staAbs b | staAbsx b | staAbsy b
  | stxAbs b | styAbs b | stzAbs b | stzAbsx b | adcAbs b | adcAbsx b | adcAbsy b | sbcAbs b | sbcAbsx b | sbcAbsy b
  | cmpAbs b | cmpAbsx b | cmpAbsy b | cpxAbs b | cpyAbs b | incAbs b | incAbsx b | decAbs b | decAbsx b | andAbs b
  | andAbsx b | andAbsy b | oraAbs b | oraAbsx b | oraAbsy b | eorAbs b | eorAbsx b | eorAbsy b | bitAbs b | bitAbsx b
  | trbAbs b | tsbAbs b | aslAbs b | aslAbsx b | lsrAbs b | lsrAbsx b | rolAbs b | rolAbsx b | rorAbs b | rorAbsx b
  | jmpAbs b | jmpAbsind b | jmpAbsxind b | jsr b => exact ⟨_, _, rfl, congrArg _ (mkAddr_hiByte_loByte b)⟩
  | _ => exact ⟨_, _, rfl, rfl⟩

/-! From the bytes to the instruction and back (30_encoding R84, R88). -/

/-- A cell of the matrix stands at its opcode: what it makes of any two bytes encodes to the opcode and as many of the two
as the instruction has. -/
def CellEncodes (op : Byte) (cell : Cell) : Prop :=
  ∀ b1 b2, encode (cell b1 b2) = [op, b1, b2].take (cell b1 b2).length

/-- The 256 opcodes, row by row. -/
def opcodeTable : List (List Byte) :=
  (List.range 16).map fun hi => (List.range 16).map fun lo => BitVec.ofNat 8 (16 * hi + lo)

/-- Cell by cell, in the order of the table: a cell that makes an address of its two bytes splits it into the same two, any
other cell keeps its bytes as they are. -/
theorem opcodeMatrix_encodes : List.Forall₂ (List.Forall₂ CellEncodes) opcodeTable opcodeMatrix := by
  simp [CellEncodes, opcodeTable, List.range, List.range.loop, opcodeMatrix, opcodeRow0, opcodeRow1, opcodeRow2,
    opcodeRow3, opcodeRow4, opcodeRow5, opcodeRow6, opcodeRow7, opcodeRow8, opcodeRow9, opcodeRowA, opcodeRowB,
    opcodeRowC, opcodeRowD, opcodeRowE, opcodeRowF, encode, Instr.length, Instr.format, Format.length]

/-- A pointwise relation of two lists, at a position inside them and whatever the defaults are. -/
theorem forall₂_getD {α β : Type} {R : α → β → Prop} {l : List α} {m : List β} (h : List.Forall₂ R l m) (a : α)
    (b : β) {n : Nat} (hn : n < l.length) : R (l.getD n a) (m.getD n b) := by
  have hm : n < m.length := h.length_eq ▸ hn
  rw [List.getD_eq_getElem _ _ hn, List.getD_eq_getElem _ _ hm]
  exact h.get hn hm

/-- What stands at an opcode's place encodes to that opcode. -/
theorem encode_decodeAt (op b1 b2 : Byte) :
    encode (decodeAt op b1 b2) = [op, b1, b2].take (decodeAt op b1 b2).length := by
  have hop := op.isLt
  have hhi : op.toNat / 16 < 16 := by omega
  have hlo : op.toNat % 16 < 16 := by omega
  have hrow := forall₂_getD opcodeMatrix_encodes [] [] (n := op.toNat / 16) (by simpa [opcodeTable] using hhi)
  have hcell := forall₂_getD hrow 0 (fun _ _ => .nop) (n := op.toNat % 16)
    (by simpa [opcodeTable, hhi] using hlo)
  have hn : BitVec.ofNat 8 (16 * (op.toNat / 16) + op.toNat % 16) = op := by
    rw [Nat.div_add_mod, BitVec.ofNat_toNat, BitVec.setWidth_eq]
  have hop : ((opcodeTable.getD (op.toNat / 16) []).getD (op.toNat % 16) 0) = op := by
    simpa [opcodeTable, hhi, hlo] using hn
  rw [hop] at hcell
  exact hcell b1 b2

theorem wellFormedBytes_cons_iff (op : Byte) (tail : List Byte) :
    wellFormedBytes (op :: tail) = true ↔ tail.length + 1 = opcodeLength op := beq_iff_eq

/-- The length of an instruction is that of its opcode: its encoding begins with the opcode and is a whole instruction
(30_encoding R89). -/
theorem decodeAt_length (op b1 b2 : Byte) : (decodeAt op b1 b2).length = opcodeLength op := by
  obtain ⟨hlen, hwf⟩ := encoding_statement (decodeAt op b1 b2)
  rw [encode_decodeAt] at hlen hwf
  cases hn : (decodeAt op b1 b2).length with
  | zero => simp only [hn, List.take_zero, wellFormedBytes, Bool.false_eq_true] at hwf
  | succ n =>
    rw [hn, List.take_succ_cons, List.length_cons] at hlen
    rw [hn, List.take_succ_cons, wellFormedBytes_cons_iff, hlen] at hwf
    exact hwf

theorem format_length_bounds (f : Format) : 0 < f.length ∧ f.length ≤ 3 := by
  cases f <;> decide

/-- Every opcode has one, two or three bytes: none to two operand bytes (30_encoding R82). -/
theorem exists_opcodeLength_eq (op : Byte) : ∃ n ≤ 2, opcodeLength op = n + 1 := by
  obtain ⟨hpos, hle⟩ := format_length_bounds (decodeAt op 0 0).format
  obtain ⟨n, hn⟩ := Nat.exists_eq_add_one.mpr hpos
  exact ⟨n, by omega, (decodeAt_length op 0 0).symm.trans hn⟩

/-- When a string decodes, and to what. -/
theorem decode_cons_eq_ok_iff (op : Byte) (tail rest : List Byte) (i : Instr) :
    decode (op :: tail) = .ok (i, rest) ↔ opcodeLength op ≤ tail.length + 1 ∧
      decodeAt op (tail.getD 0 0) (tail.getD 1 0) = i ∧ tail.drop (opcodeLength op - 1) = rest := by
  by_cases h : tail.length + 1 < opcodeLength op
  · simp [decode, decodeAt_length, h, Nat.not_le.mpr h]
  · simp [decode, decodeAt_length, h, Nat.not_lt.mp h]

/-- Settles O1: the encoding is the opcode and its operands, whose cell is the instruction, and as many bytes as the
instruction has operands are dropped. -/
theorem decodeOfEncodeIsIdentity : Obligations.DecodeOfEncodeIsIdentity := by
  intro i rest
  obtain ⟨op, operands, he, hi⟩ := decodeAt_of_encode i rest
  have hl : operands.length + 1 = opcodeLength op := by
    rw [← wellFormedBytes_cons_iff, ← he]
    exact (encoding_statement i).2
  rw [he, List.cons_append, decode_cons_eq_ok_iff, ← hl, Nat.add_sub_cancel, List.length_append]
  exact ⟨by omega, hi, List.drop_left⟩

/-- As many operand bytes as there are, followed by what is left over, are the bytes after the opcode. -/
theorem take_operands_append_drop (tail : List Byte) {n : Nat} (hn : n ≤ 2) (hl : n ≤ tail.length) :
    [tail.getD 0 0, tail.getD 1 0].take n ++ tail.drop n = tail := by
  match n, tail with
  | 0, _ => rfl
  | 1, _ :: _ => rfl
  | 2, _ :: _ :: _ => rfl

/-- Settles O2: the instruction encodes to the opcode and the operand bytes it has, and what is left over comes after
them. -/
theorem encodeOfDecodeIsIdentity : Obligations.EncodeOfDecodeIsIdentity := by
  intro bytes i rest h
  cases bytes with
  | nil => cases h
  | cons op tail =>
    obtain ⟨hl, rfl, rfl⟩ := (decode_cons_eq_ok_iff op tail rest i).mp h
    rw [encode_decodeAt, decodeAt_length]
    obtain ⟨n, hn2, hn⟩ := exists_opcodeLength_eq op
    rw [hn, List.take_succ_cons, List.cons_append, Nat.add_sub_cancel,
      take_operands_append_drop tail hn2 (by omega)]

/-- Settles O3: a string decodes exactly when it holds the bytes of its opcode's length, and that is the instruction's. -/
theorem decodeFailsOnlyOnTooFewBytes : Obligations.DecodeFailsOnlyOnTooFewBytes := by
  intro op tail
  simp only [decode_cons_eq_ok_iff]
  refine ⟨⟨fun ⟨_, _, hl, _⟩ => hl, fun hl => ⟨_, _, hl, rfl, rfl⟩⟩, ?_⟩
  rintro i rest ⟨-, rfl, rfl⟩
  exact ⟨decodeAt_length _ _ _, rfl⟩

end Sys2Proof.Proofs
end

section
/-! PROOFS of the statement about the effective address, and what an operand's number is (40_addressing_modes R101, R102). -/

namespace Sys2Proof.Proofs

open Machine Stmt

/-! Bytes and words of memory, by the number of their address (20_memory R54 to R56). -/

theorem ofNat_toNat_addr (a : Addr) : BitVec.ofNat 16 a.toNat = a := by
  rw [BitVec.ofNat_toNat, BitVec.setWidth_eq]

theorem byteAt_toNat (s : State) (a : Addr) : byteAt s a.toNat = (Memory.read s.mem a).toNat := by
  rw [byteAt, ofNat_toNat_addr]

theorem byteAt_toNat_add_one (s : State) (a : Addr) : byteAt s (a.toNat + 1) = (Memory.read s.mem (a + 1)).toNat := by
  rw [byteAt, BitVec.ofNat_add, ofNat_toNat_addr]
  rfl

/-- A byte of page zero, by the number of its zero page address (20_memory R63). -/
theorem byteAt_zeroPage (s : State) (z : Byte) : byteAt s z.toNat = (Memory.read s.mem (zext z)).toNat := by
  rw [← byteAt_toNat, zext_toNat]

theorem read16_toNat (s : State) (a : Addr) : (Memory.read16 s.mem a).toNat = wordAt s a.toNat := by
  rw [Memory.read16, mkAddr_toNat, wordAt, byteAt_toNat, byteAt_toNat_add_one, Nat.add_comm, Nat.mul_comm]

theorem read16ZP_toNat (s : State) (z : Byte) : (Memory.read16ZP s.mem z).toNat = wordAtZp s z.toNat := by
  rw [Memory.read16ZP, mkAddr_toNat, wordAtZp, Nat.mod_eq_of_lt z.isLt, ← toNat_add_one, byteAt_zeroPage, byteAt_zeroPage,
    Nat.add_comm, Nat.mul_comm]

/-! The effective address (40_addressing_modes R101). -/

/-- An index addition in 16 bits wraps modulo 65536 (92 D3). -/
theorem add_zext_toNat (b : Addr) (w : Byte) : (b + zext w).toNat = (b.toNat + w.toNat) % 65536 := by
  rw [BitVec.toNat_add, zext_toNat]

/-- Settles O54, mode by mode: each index addition wraps where its mode says, and each pointer is the word it points at. -/
theorem effectiveAddress : Obligations.EffectiveAddress
  | .zp z, _ => zext_toNat z
  | .zpx z, s => zext_add_toNat z s.x
  | .zpy z, s => zext_add_toNat z s.y
  | .abs _, _ => rfl
  | .absx b, s => add_zext_toNat b s.x
  | .absy b, s => add_zext_toNat b s.y
  | .indx z, s => by rw [effAddr, read16ZP_toNat, BitVec.toNat_add]; rfl
  | .indy z, s => by rw [effAddr, add_zext_toNat, read16ZP_toNat]; rfl
  | .zpind z, s => read16ZP_toNat s z
  | .absind b, s => read16_toNat s b
  | .absxind b, s => by rw [effAddr, read16_toNat, add_zext_toNat]; rfl

/-- The number of an operand (40_addressing_modes R102). -/
theorem operand_toNat (src : Source) (s : State) : (operand src s).toNat = operandOf src s := by
  cases src with
  | imm v => rfl
  | mem m => rw [operandOf, ← effectiveAddress, byteAt_toNat, operand]

end Sys2Proof.Proofs
end

section
/-! PROOFS of the statements of the families 41_load_store_transfer and 43_logic that earlier parts leave: LDA, LDX, LDY, STA
and STZ; AND, ORA, EOR and BIT. -/

namespace Sys2Proof.Proofs

open Machine Stmt

/-! A register that takes a value, with N and Z from it (00_scope R8). -/

/-- An instruction that moves PC by its fetch stands past its bytes. -/
theorem pcPast_of_pc_eq {i : Instr} {s t : State} (h : t.pc = (s.advance i.length).pc) : PcPast i s t := by
  rw [PcPast, h, advance_pc_toNat]

/-- The effect and the frame of every instruction that sets A to a value of number `n` and ends with SetNZ of it. -/
theorem runs_setA_setNZ {i : Instr} {s : State} {v : Byte} {n : Nat} (hv : v.toNat = n)
    (he : exec i s = .next (((s.advance i.length).setA v).setNZ v)) :
    Runs i s fun t => t.a.toNat = n ∧ PcPast i s t ∧ t = { s with a := t.a, p := nzOf s.p n, pc := t.pc } := by
  subst hv
  exact runs_of_setNZ he ⟨rfl, pcPast_of_pc_eq rfl, rfl⟩

/-- The same for X. -/
theorem runs_setX_setNZ {i : Instr} {s : State} {v : Byte} {n : Nat} (hv : v.toNat = n)
    (he : exec i s = .next (((s.advance i.length).setX v).setNZ v)) :
    Runs i s fun t => t.x.toNat = n ∧ PcPast i s t ∧ t = { s with x := t.x, p := nzOf s.p n, pc := t.pc } := by
  subst hv
  exact runs_of_setNZ he ⟨rfl, pcPast_of_pc_eq rfl, rfl⟩

/-- The same for Y. -/
theorem runs_setY_setNZ {i : Instr} {s : State} {v : Byte} {n : Nat} (hv : v.toNat = n)
    (he : exec i s = .next (((s.advance i.length).setY v).setNZ v)) :
    Runs i s fun t => t.y.toNat = n ∧ PcPast i s t ∧ t = { s with y := t.y, p := nzOf s.p n, pc := t.pc } := by
  subst hv
  exact runs_of_setNZ he ⟨rfl, pcPast_of_pc_eq rfl, rfl⟩

/-! Loads (41_load_store_transfer R130 to R132). -/

/-- Settles O22: each form sets A to its operand. -/
theorem ldaResult : Obligations.LdaResult := by
  intro s v z b f hf
  fin_cases hf <;> exact runs_setA_setNZ (operand_toNat _ s) rfl

/-- Settles O23: each form sets its index register to its operand. -/
theorem ldxLdyResult : Obligations.LdxLdyResult := by
  refine ⟨?ldx, ?ldy⟩
  case ldx =>
    intro s v z b f hf
    fin_cases hf <;> exact runs_setX_setNZ (operand_toNat _ s) rfl
  case ldy =>
    intro s v z b f hf
    fin_cases hf <;> exact runs_setY_setNZ (operand_toNat _ s) rfl

/-! Stores (41_load_store_transfer R133, R136). -/

/-- The effect and the frame of every instruction that is a store of one byte, PC included. -/
theorem runs_storeByte_pcPast {i : Instr} {m : MemMode} {v : Byte} {s : State} (he : exec i s = .next (storeByte m v s))
    (hl : i.length = m.length) :
    Runs i s fun t =>
      (Ram s (effAddr m s) → Memory.read t.mem (effAddr m s) = v) ∧ BytesKept [effAddr m s] s t ∧ PcPast i s t ∧
      t = { s with pc := t.pc, mem := t.mem } :=
  ⟨storeByte m v s, he, fun h => read_storeByte_ram h v, storeByte_bytesKept m v s,
    pcPast_of_pc_eq (by rw [hl, storeByte_eq, State.advance_pc]), storeByte_eq m v s⟩

/-- Settles O24: each form is the store of A, or of zero, at its mode's address. -/
theorem staStzResult : Obligations.StaStzResult := by
  intro s z b f hf
  fin_cases hf <;> exact runs_storeByte_pcPast rfl rfl

/-! AND, ORA and EOR (43_logic R170 to R172). -/

theorem and_operand_toNat (v : Byte) (src : Source) (s : State) :
    (v &&& operand src s).toNat = v.toNat &&& operandOf src s := by
  rw [BitVec.toNat_and, operand_toNat]

theorem or_operand_toNat (v : Byte) (src : Source) (s : State) :
    (v ||| operand src s).toNat = v.toNat ||| operandOf src s := by
  rw [BitVec.toNat_or, operand_toNat]

theorem xor_operand_toNat (v : Byte) (src : Source) (s : State) :
    (v ^^^ operand src s).toNat = v.toNat ^^^ operandOf src s := by
  rw [BitVec.toNat_xor, operand_toNat]

/-- Settles O35: each form sets A to A combined with its operand. -/
theorem andOraEorResult : Obligations.AndOraEorResult := by
  intro s v z b
  refine ⟨?and, ?ora, ?eor⟩
  case and =>
    intro f hf
    fin_cases hf <;> exact runs_setA_setNZ (and_operand_toNat s.a _ s) rfl
  case ora =>
    intro f hf
    fin_cases hf <;> exact runs_setA_setNZ (or_operand_toNat s.a _ s) rfl
  case eor =>
    intro f hf
    fin_cases hf <;> exact runs_setA_setNZ (xor_operand_toNat s.a _ s) rfl

/-! BIT (43_logic R173). -/

/-- Two bytes share no bit exactly when their numbers share none. -/
theorem and_beq_zero (v w : Byte) : (v &&& w == 0) = decide (v.toNat &&& w.toNat = 0) := by
  rw [beq_eq_decide, decide_eq_decide, ← BitVec.toNat_inj, BitVec.toNat_and]
  rfl

/-- BIT with a memory operand tests A against the byte and takes N and V from it. -/
theorem bitMemory_eq_operandOf (m : MemMode) (s : State) :
    bitMemory m s = { s with
      p := { s.p with
        z := decide (s.a.toNat &&& operandOf (.mem m) s = 0)
        n := (operandOf (.mem m) s).testBit 7
        v := (operandOf (.mem m) s).testBit 6 }
      pc := s.pc + BitVec.ofNat 16 m.length } := by
  rw [bitMemory_eq, ← operand_toNat, operand, and_beq_zero]
  rfl

theorem runs_bitMemory {i : Instr} {m : MemMode} {s : State} (he : exec i s = .next (bitMemory m s))
    (hl : i.length = m.length) :
    Runs i s fun t =>
      let v := operandOf (.mem m) s
      PcPast i s t ∧
      t = { s with
        p := { s.p with z := decide (s.a.toNat &&& v = 0), n := v.testBit 7, v := v.testBit 6 }
        pc := t.pc } := by
  rw [bitMemory_eq_operandOf, ← hl] at he
  exact ⟨_, he, pcPast_of_pc_eq rfl, rfl⟩

/-- Settles O36: the immediate form writes Z alone, each memory form writes Z, N and V. -/
theorem bitResult : Obligations.BitResult := by
  intro s v z b
  refine ⟨?immediate, ?memory⟩
  case immediate =>
    rw [← and_beq_zero]
    exact runs_setP rfl
  case memory =>
    intro f hf
    fin_cases hf <;> exact runs_bitMemory rfl rfl

end Sys2Proof.Proofs
end

section
/-! PROOFS of the statements of the family 42_arithmetic that earlier parts leave: ADC, SBC, the comparisons, INC and DEC;
and of 44_shift_rotate, whose read-modify-write they share. -/

namespace Sys2Proof.Proofs

open Machine Stmt

/-! The forms of ADC and SBC (40_addressing_modes R119). -/

theorem adcForms_exec (s : State) (v z : Byte) (b : Addr) :
    ∀ f ∈ adcForms v z b, exec f.1 s = .next (addWithCarry f.2 s) ∧ f.1.length = f.2.length := by
  intro f hf
  fin_cases hf <;> exact ⟨rfl, rfl⟩

theorem sbcForms_exec (s : State) (v z : Byte) (b : Addr) :
    ∀ f ∈ sbcForms v z b, exec f.1 s = .next (subWithBorrow f.2 s) ∧ f.1.length = f.2.length := by
  intro f hf
  fin_cases hf <;> exact ⟨rfl, rfl⟩

/-! ADC and SBC in binary mode (42_arithmetic R150, R152). -/

/-- The effect and the frame of a binary result of number `n`. -/
theorem runs_binaryResult {i : Instr} {s : State} {r : AluResult} {n : Nat} (hn : r.r.toNat = n)
    (he : exec i s = .next (binaryResult r (s.advance i.length))) :
    Runs i s fun t => t.a.toNat = n ∧ PcPast i s t ∧
      t = { s with a := t.a, p := { nzOf s.p n with c := r.c, v := r.v }, pc := t.pc } := by
  subst hn
  refine ⟨_, he, rfl, pcPast_of_pc_eq rfl, ?_⟩
  rw [← setNZ_eq_nzOf]
  rfl

theorem addBin_c (a m : Byte) (c : Bool) : (addBin a m c).c = decide (255 < a.toNat + m.toNat + c.toNat) := rfl

theorem addBin_v (a m : Byte) (c : Bool) :
    (addBin a m c).v = overflows (signed a.toNat + signed m.toNat + c.toNat) := by
  rw [Bool.eq_iff_iff, addBin_v_iff, overflows, decide_eq_true_iff]

/-- Settles O27: each form's result is the sum of A, its operand and C. -/
theorem adcBinaryResult : Obligations.AdcBinaryResult := by
  intro s v z b f hf hd
  obtain ⟨he, hl⟩ := adcForms_exec s v z b f hf
  rw [addWithCarry_binary _ _ hd, ← hl] at he
  simpa only [← operand_toNat, ← addBin_c, ← addBin_v] using runs_binaryResult (addBin_r_toNat _ _ _) he

theorem subBin_r_toNat (a m : Byte) (c : Bool) :
    (subBin a m c).r.toNat = (((a.toNat : Int) - m.toNat - (1 - c.toNat)) % 256).toNat :=
  BitVec.toNat_ofInt ..

theorem subBin_c (a m : Byte) (c : Bool) :
    (subBin a m c).c = decide (0 ≤ (a.toNat : Int) - m.toNat - (1 - c.toNat)) := rfl

theorem subBin_v (a m : Byte) (c : Bool) :
    (subBin a m c).v = overflows (signed a.toNat - signed m.toNat - (1 - c.toNat)) := by
  rw [overflows, Bool.decide_or, ← toInt_eq_signed, ← toInt_eq_signed]
  rfl

/-- Settles O29: each form's result is the difference of A, its operand and the borrow, which is C inverted. -/
theorem sbcBinaryResult : Obligations.SbcBinaryResult := by
  intro s v z b f hf hd
  obtain ⟨he, hl⟩ := sbcForms_exec s v z b f hf
  rw [subWithBorrow_binary _ _ hd, ← hl] at he
  obtain ⟨t, ht, ha, hpc, hframe⟩ := runs_binaryResult (subBin_r_toNat _ _ _) he
  rw [subBin_c, subBin_v, operand_toNat] at hframe
  rw [operand_toNat] at ha
  refine ⟨t, ht, ?_, hpc, hframe⟩
  rw [ha, Int.toNat_of_nonneg (Int.emod_nonneg _ (by decide))]

/-- Subtracting a byte is adding its complement: to the bit, the carry and the overflow (42_arithmetic R152). -/
theorem subBin_eq_addBin_not (a m : Byte) (c : Bool) : subBin a m c = addBin a (~~~m) c := by
  have ha := a.isLt
  have hm := m.isLt
  have hc := c.toNat_le
  have hr : (subBin a m c).r = (addBin a (~~~m) c).r := by
    apply BitVec.eq_of_toNat_eq
    rw [subBin_r_toNat, addBin_r_toNat, BitVec.toNat_not]
    omega
  have hcarry : (subBin a m c).c = (addBin a (~~~m) c).c := by
    rw [subBin_c, addBin_c, BitVec.toNat_not, decide_eq_decide]
    omega
  have hv : (subBin a m c).v = (addBin a (~~~m) c).v := by
    have hsigned : signed (~~~m).toNat = -signed m.toNat - 1 := by
      rw [BitVec.toNat_not, signed, signed]
      split <;> split <;> omega
    rw [subBin_v, addBin_v, hsigned]
    congr 1
    omega
  show AluResult.mk (subBin a m c).r (subBin a m c).c (subBin a m c).v = addBin a (~~~m) c
  rw [hr, hcarry, hv]

/-- Settles O56. -/
theorem sbcIsAdcOfComplement : Obligations.SbcIsAdcOfComplement := by
  intro s v hd
  show Host.Outcome.next (subWithBorrow (.imm v) s) = .next (addWithCarry (.imm (~~~v)) s)
  rw [subWithBorrow_binary _ _ hd, addWithCarry_binary _ _ hd]
  exact congrArg (fun r => Host.Outcome.next (binaryResult r (s.advance 2))) (subBin_eq_addBin_not s.a v s.p.c)

/-! ADC and SBC in decimal mode (42_arithmetic R151, R153; 93 U2, U3). -/

theorem bcdValid_iff (v : Byte) : bcdValid v = true ↔ validBcd v.toNat := by
  rw [bcdValid, Bool.and_eq_true, decide_eq_true_iff, decide_eq_true_iff, validBcd]

theorem bcdEncode_toNat {n : Nat} (h : n < 100) : (bcdEncode n).toNat = bcd n := by
  rw [bcdEncode, BitVec.toNat_ofNat, bcd]
  omega

theorem addDec_r_toNat (a m : Byte) (c : Bool) :
    (addDec a m c).1.toNat = bcd ((dec a.toNat + dec m.toNat + c.toNat) % 100) :=
  bcdEncode_toNat (Nat.mod_lt _ (by decide))

theorem subDec_r_toNat (a m : Byte) (c : Bool) :
    (subDec a m c).1.toNat = bcd (((dec a.toNat : Int) - dec m.toNat - (1 - c.toNat)) % 100).toNat :=
  bcdEncode_toNat (by omega)

/-- The effect and the frame of a decimal result of number `n` on valid operands: V and the draws are left open. -/
theorem runs_decimalResult_valid {i : Instr} {s : State} {r : Byte × Bool} {n : Nat} (hn : r.1.toNat = n)
    (he : exec i s = .next (decimalResult true r (s.advance i.length))) :
    Runs i s fun t => t.a.toNat = n ∧ PcPast i s t ∧
      t = { s with a := t.a, p := { nzOf s.p n with c := r.2, v := t.p.v }, pc := t.pc, draws := t.draws } := by
  subst hn
  refine ⟨_, he, rfl, pcPast_of_pc_eq rfl, ?_⟩
  rw [← setNZ_eq_nzOf]
  rfl

/-- Settles O28: on valid operands each form's result is the decimal sum. -/
theorem adcDecimalResult : Obligations.AdcDecimalResult := by
  intro s v z b f hf hd ha hm
  obtain ⟨he, hl⟩ := adcForms_exec s v z b f hf
  rw [← operand_toNat] at hm
  rw [addWithCarry_decimal _ _ hd, (bcdValid_iff _).mpr ha, (bcdValid_iff _).mpr hm, ← hl] at he
  simp only [← operand_toNat]
  exact runs_decimalResult_valid (addDec_r_toNat _ _ _) he

/-- Settles O30: on valid operands each form's result is the decimal difference. -/
theorem sbcDecimalResult : Obligations.SbcDecimalResult := by
  intro s v z b f hf hd ha hm
  obtain ⟨he, hl⟩ := sbcForms_exec s v z b f hf
  rw [← operand_toNat] at hm
  rw [subWithBorrow_decimal _ _ hd, (bcdValid_iff _).mpr ha, (bcdValid_iff _).mpr hm, ← hl] at he
  simp only [← operand_toNat]
  exact runs_decimalResult_valid (subDec_r_toNat _ _ _) he

/-- A decimal result writes A, N, V, Z, C and the draws, whatever the operands are. -/
theorem runs_decimalResult {i : Instr} {s : State} {valid : Bool} {r : Byte × Bool}
    (he : exec i s = .next (decimalResult valid r (s.advance i.length))) :
    Runs i s fun t => PcPast i s t ∧
      t = { s with
        a := t.a
        p := { s.p with n := t.p.n, v := t.p.v, z := t.p.z, c := t.p.c }
        pc := t.pc
        draws := t.draws } := by
  cases valid <;> exact ⟨_, he, pcPast_of_pc_eq rfl, rfl⟩

/-- Settles O31: in decimal mode each form ends in a decimal result. -/
theorem invalidDecimalCompletes : Obligations.InvalidDecimalCompletes := by
  intro s v z b f hf hd _
  rcases List.mem_append.mp hf with hf | hf
  · obtain ⟨he, hl⟩ := adcForms_exec s v z b f hf
    rw [addWithCarry_decimal _ _ hd, ← hl] at he
    exact runs_decimalResult he
  · obtain ⟨he, hl⟩ := sbcForms_exec s v z b f hf
    rw [subWithBorrow_decimal _ _ hd, ← hl] at he
    exact runs_decimalResult he

/-! CMP, CPX and CPY (42_arithmetic R154). -/

/-- The model's Compare is that of the rule, on the numbers of the two bytes. -/
theorem compare_eq (p : Status) (r m : Byte) :
    p.compare r m = { p with
      c := decide (0 ≤ (r.toNat : Int) - m.toNat)
      z := decide ((r.toNat : Int) - m.toNat = 0)
      n := decide (128 ≤ ((r.toNat : Int) - m.toNat) % 256) } := by
  have hn : (BitVec.ofInt 8 ((r.toNat : Int) - m.toNat)).getLsbD 7 = decide (128 ≤ ((r.toNat : Int) - m.toNat) % 256) := by
    rw [getLsbD_seven, BitVec.toNat_ofInt, decide_eq_decide]
    omega
  rw [Status.compare, hn]

theorem runs_compare {i : Instr} {s : State} {src : Source} {r : Byte}
    (he : exec i s = .next ((s.advance i.length).setP (s.p.compare r (operand src s)))) :
    Runs i s fun t =>
      let diff : Int := r.toNat - operandOf src s
      PcPast i s t ∧
      t = { s with
        p := { s.p with c := decide (0 ≤ diff), z := decide (diff = 0), n := decide (128 ≤ diff % 256) }
        pc := t.pc } := by
  rw [compare_eq, operand_toNat] at he
  exact runs_setP he

/-- Settles O32: each form compares its register with its operand. -/
theorem compareResult : Obligations.CompareResult := by
  intro s v z b f hf
  fin_cases hf <;> exact runs_compare rfl

/-! Read-modify-write, of A and of memory (44_shift_rotate R180). -/

/-- `f` makes the number `val m` and the flags `flags m` of a byte of number `m`, from the flags `p`. -/
def Computes (f : Byte → Status → Byte × Status) (p : Status) (val : Nat → Nat) (flags : Nat → Status) : Prop :=
  ∀ m : Byte, (f m p).1.toNat = val m.toNat ∧ (f m p).2 = flags m.toNat

/-- The bytes of a read-modify-write instruction, the opcode included. -/
def targetLength : Target → Nat
  | .acc => 1
  | .mem m => m.length

/-- The effect and the frame of every read-modify-write instruction, in both of its kinds. -/
theorem runs_rmw {i : Instr} {tgt : Target} {f : Byte → Status → Byte × Status} {s : State} {val : Nat → Nat}
    {flags : Nat → Status} (hf : Computes f s.p val flags) (he : exec i s = .next (rmw tgt f s))
    (hl : i.length = targetLength tgt) :
    (tgt = .acc → Runs i s fun t =>
      t.a.toNat = val s.a.toNat ∧ PcPast i s t ∧ t = { s with a := t.a, p := flags s.a.toNat, pc := t.pc }) ∧
    ∀ m, tgt = .mem m → Runs i s fun t =>
      let old := (Memory.read s.mem (effAddr m s)).toNat
      (Ram s (effAddr m s) → (Memory.read t.mem (effAddr m s)).toNat = val old) ∧
      BytesKept [effAddr m s] s t ∧ PcPast i s t ∧ t = { s with p := flags old, pc := t.pc, mem := t.mem } := by
  refine ⟨?acc, ?mem⟩
  case acc =>
    rintro rfl
    obtain ⟨hval, hflags⟩ := hf s.a
    refine ⟨_, he, hval, pcPast_of_pc_eq (by rw [hl]; rfl), ?_⟩
    rw [← hflags]
    rfl
  case mem =>
    rintro m rfl
    obtain ⟨hval, hflags⟩ := hf (Memory.read s.mem (effAddr m s))
    refine ⟨_, he, fun h => ?_, rmw_mem_bytesKept m f s, pcPast_of_pc_eq (by rw [hl]; rfl), ?_⟩
    · rw [read_rmw_mem_ram h, hval]
    · rw [← hflags]
      rfl

/-! INC and DEC (42_arithmetic R160, R163). -/

theorem incResult_computes (p : Status) :
    Computes incResult p (fun m => (m + 1) % 256) (fun m => nzOf p ((m + 1) % 256)) := fun m =>
  ⟨toNat_add_one m, (setNZ_eq_nzOf p (m + 1)).trans (congrArg (nzOf p) (toNat_add_one m))⟩

theorem decResult_computes (p : Status) :
    Computes decResult p (fun m => (m + 255) % 256) (fun m => nzOf p ((m + 255) % 256)) := fun m =>
  ⟨toNat_sub_one m, (setNZ_eq_nzOf p (m - 1)).trans (congrArg (nzOf p) (toNat_sub_one m))⟩

/-- Settles O33: five forms that increment, then five that decrement. -/
theorem incDecResult : Obligations.IncDecResult := by
  intro s z b
  refine List.forall_mem_append (l₁ := (incDecForms z b).take 5) |>.mpr ⟨?inc, ?dec⟩
  case inc =>
    intro f hf
    fin_cases hf <;> exact runs_rmw (incResult_computes s.p) rfl rfl
  case dec =>
    intro f hf
    fin_cases hf <;> exact runs_rmw (decResult_computes s.p) rfl rfl

/-! ASL, LSR, ROL and ROR (44_shift_rotate R181 to R184). -/

theorem getLsbD_zero (v : Byte) : v.getLsbD 0 = lowBit v.toNat := Nat.testBit_zero _

theorem aslResult_computes (p : Status) :
    Computes aslResult p (fun m => aslValue m p.c.toNat)
      (fun m => { nzOf p (aslValue m p.c.toNat) with c := highBit m }) := by
  intro m
  have hv : (BitVec.ofNat 8 (m.toNat * 2)).toNat = aslValue m.toNat p.c.toNat := BitVec.toNat_ofNat ..
  refine ⟨hv, ?_⟩
  rw [aslResult, setNZ_eq_nzOf, hv, getLsbD_seven]
  rfl

theorem lsrResult_computes (p : Status) :
    Computes lsrResult p (fun m => lsrValue m p.c.toNat)
      (fun m => { nzOf p (lsrValue m p.c.toNat) with c := lowBit m }) := by
  intro m
  have hm := m.isLt
  have hv : (BitVec.ofNat 8 (m.toNat / 2)).toNat = lsrValue m.toNat p.c.toNat := by
    rw [BitVec.toNat_ofNat, lsrValue]
    omega
  have hn : (BitVec.ofNat 8 (m.toNat / 2)).getLsbD 7 = false := by
    rw [getLsbD_seven, hv, lsrValue, decide_eq_false_iff_not]
    omega
  have hnz : (lsrResult m p).2 = ({ p with c := m.getLsbD 0 } : Status).setNZ (BitVec.ofNat 8 (m.toNat / 2)) := by
    rw [Status.setNZ, hn]
    rfl
  refine ⟨hv, ?_⟩
  rw [hnz, setNZ_eq_nzOf, hv, getLsbD_zero]
  rfl

theorem rolResult_computes (p : Status) :
    Computes rolResult p (fun m => rolValue m p.c.toNat)
      (fun m => { nzOf p (rolValue m p.c.toNat) with c := highBit m }) := by
  intro m
  have hc := p.c.toNat_le
  have hv : (BitVec.ofNat 8 (m.toNat * 2 % 256 + p.c.toNat)).toNat = rolValue m.toNat p.c.toNat := by
    rw [BitVec.toNat_ofNat, rolValue]
    omega
  refine ⟨hv, ?_⟩
  rw [rolResult, setNZ_eq_nzOf, hv, getLsbD_seven]
  rfl

theorem rorResult_computes (p : Status) :
    Computes rorResult p (fun m => rorValue m p.c.toNat)
      (fun m => { nzOf p (rorValue m p.c.toNat) with c := lowBit m }) := by
  intro m
  have hm := m.isLt
  have hc := p.c.toNat_le
  have hv : (BitVec.ofNat 8 (m.toNat / 2 + p.c.toNat * 128)).toNat = rorValue m.toNat p.c.toNat := by
    rw [BitVec.toNat_ofNat, rorValue]
    omega
  refine ⟨hv, ?_⟩
  rw [rorResult, setNZ_eq_nzOf, hv, getLsbD_zero]
  rfl

/-- Settles O38: five forms of each of the four instructions, in this order. -/
theorem shiftResult : Obligations.ShiftResult := by
  intro s z b
  refine List.forall_mem_append (l₁ := (shiftForms z b).take 5) |>.mpr ⟨?asl, ?rest⟩
  case' rest => refine List.forall_mem_append (l₁ := ((shiftForms z b).drop 5).take 5) |>.mpr ⟨?lsr, ?rotates⟩
  case' rotates => refine List.forall_mem_append (l₁ := ((shiftForms z b).drop 10).take 5) |>.mpr ⟨?rol, ?ror⟩
  case asl =>
    intro f hf
    fin_cases hf <;> exact runs_rmw (aslResult_computes s.p) rfl rfl
  case lsr =>
    intro f hf
    fin_cases hf <;> exact runs_rmw (lsrResult_computes s.p) rfl rfl
  case rol =>
    intro f hf
    fin_cases hf <;> exact runs_rmw (rolResult_computes s.p) rfl rfl
  case ror =>
    intro f hf
    fin_cases hf <;> exact runs_rmw (rorResult_computes s.p) rfl rfl

end Sys2Proof.Proofs
end

section
/-! PROOFS of the statements of the families 45_branch, 46_jump_call, 47_stack, 48_status_flags and 49_system that earlier
parts leave: one instruction each. -/

namespace Sys2Proof.Proofs

open Machine Stmt

/-! Branches (45_branch R190 to R199). -/

/-- The offset counts as a signed number, modulo 65536 (30_encoding R86). -/
theorem add_sext_toNat (a : Addr) (off : Byte) : ((a + sext off).toNat : Int) = (a.toNat + signed off.toNat) % 65536 := by
  have hoff : (sext off).toNat = (signed off.toNat % 65536).toNat := by
    rw [← toInt_eq_signed]
    exact BitVec.toNat_ofInt ..
  rw [BitVec.toNat_add, hoff]
  omega

theorem runs_branch {i : Instr} {s : State} {cond : Bool} {off : Byte} (he : exec i s = .next (branch cond off s)) :
    Runs i s fun t =>
      (t.pc.toNat : Int) = (s.pc.toNat + 2 + if cond then signed off.toNat else 0) % 65536 ∧ t = { s with pc := t.pc } := by
  rw [branch_eq] at he
  refine ⟨_, he, ?_, rfl⟩
  have hnext : ((s.pc + 2).toNat : Int) = (s.pc.toNat + 2) % 65536 := congrArg Nat.cast (BitVec.toNat_add s.pc 2)
  cases cond with
  | false =>
    rw [State.setPc_pc, if_neg Bool.false_ne_true, if_neg Bool.false_ne_true, hnext, add_zero]
  | true =>
    rw [State.setPc_pc, if_pos rfl, if_pos rfl, add_sext_toNat, hnext]
    omega

/-- Settles O39: each form is the branch on its condition. -/
theorem branchResult : Obligations.BranchResult := by
  intro s off f hf
  fin_cases hf <;> exact runs_branch rfl

/-! JMP (46_jump_call R205). -/

/-- Settles O40: each form sets PC to its effective address. -/
theorem jmpResult : Obligations.JmpResult := by
  intro s b f hf
  fin_cases hf <;> exact ⟨s.setPc _, rfl, effectiveAddress _ s, rfl⟩

/-! PLP, CLI and SEI (47_stack R218; 48_status_flags R232, R236). -/

/-- Settles O46: PLP loads P from the byte pulled, CLI and SEI write P with I replaced. -/
theorem plpCliSeiResult : Obligations.PlpCliSeiResult := by
  intro s
  refine ⟨?plp, ?cli, ?sei⟩
  case plp => exact ⟨((s.advance 1).pull).setP (loadP s.pulled), rfl, pcPast_of_pc_eq rfl, rfl⟩
  case cli | sei => exact runs_setP rfl

/-! NOP, WAI, STP and the reserved opcodes (49_system R241 to R250). -/

/-- Settles O50: each fetches one byte and writes the run state. -/
theorem waiStpResult : Obligations.WaiStpResult := by
  intro s
  refine ⟨?wai, ?stp⟩
  case wai => exact ⟨(s.advance 1).setRun .waiting, rfl, pcPast_of_pc_eq rfl, rfl⟩
  case stp => exact ⟨(s.advance 1).setRun .stopped, rfl, pcPast_of_pc_eq rfl, rfl⟩

/-- The length of an instruction is that of the opcode its encoding begins with (30_encoding R89). -/
theorem length_eq_opcodeLength (i : Instr) : i.length = opcodeLength ((encode i).getD 0 0) := by
  obtain ⟨hlen, hwf⟩ := encoding_statement i
  cases he : encode i with
  | nil => simp only [he, wellFormedBytes, Bool.false_eq_true] at hwf
  | cons op tail =>
    rw [he, wellFormedBytes_cons_iff] at hwf
    rw [← hlen, he, List.length_cons, hwf, List.getD_cons_zero]

/-- NOP and the reserved opcodes fetch their bytes and do nothing else. -/
theorem noOperations_exec (s : State) (pad pad2 : Byte) :
    ∀ i ∈ noOperations pad pad2, exec i s = .next (s.advance i.length) := by
  intro i hi
  fin_cases hi <;> rfl

/-- Settles O49. -/
theorem noOperationResult : Obligations.NoOperationResult := fun s pad pad2 i hi =>
  ⟨length_eq_opcodeLength i, _, noOperations_exec s pad pad2 i hi, pcPast_of_pc_eq rfl, rfl⟩

end Sys2Proof.Proofs
end

section
/-! PROOFS of the statements about the stack: JSR, RTI and BRK, and what undoes what (20_memory R57 to R59;
46_jump_call; 47_stack; 60_exceptions R270, R272). -/

namespace Sys2Proof.Proofs

open Machine Stmt

/-! S modulo 256, and PC modulo 65536. -/

theorem byte_ne_sub_one (v : Byte) : v ≠ v - 1 := by bv_omega

theorem byte_ne_sub_one_sub_one (v : Byte) : v ≠ v - 1 - 1 := by bv_omega

theorem byte_sub_one_sub_one (v : Byte) : v - 1 - 1 = v - 2 := by bv_omega

theorem byte_sub_one_sub_one_sub_one (v : Byte) : v - 1 - 1 - 1 = v - 3 := by bv_omega

theorem byte_add_one_add_one_add_one (v : Byte) : v + 1 + 1 + 1 = v + 3 := by bv_omega

theorem byte_sub_three_add_one (v : Byte) : v - 3 + 1 = v - 2 := by bv_omega

theorem byte_sub_three_add_two (v : Byte) : v - 3 + 2 = v - 1 := by bv_omega

theorem byte_sub_two_add_one (v : Byte) : v - 2 + 1 = v - 1 := by bv_omega

theorem addr_add_three_sub_one (a : Addr) : a + 3 - 1 = a + 2 := by bv_omega

theorem addr_add_one_add_one (a : Addr) : a + 1 + 1 = a + 2 := by bv_omega

theorem addr_add_two_add_one (a : Addr) : a + 2 + 1 = a + 3 := by bv_omega

/-! Bytes kept, through several pushes. -/

theorem bytesKept_trans {c d : List Addr} {s t u : State} (h : BytesKept c s t) (h' : BytesKept d t u) :
    BytesKept (c ++ d) s u := by
  intro a ha
  rw [h' a fun hd => ha (List.mem_append_right c hd), h a fun hc => ha (List.mem_append_left d hc)]

/-- A push changes no location that is not RAM. -/
theorem push_othersKept (s : State) (v : Byte) : OthersKept s (s.push v) := fun _ ha =>
  Board.read_write_other ha s.mem _ v

/-- Stack locations with different S differ, so a push there keeps the byte of another one. -/
theorem read_push_stackAddr_ne {s : State} {sp : Byte} (h : sp ≠ s.sp) (v : Byte) :
    Memory.read (s.push v).mem (stackAddr sp) = Memory.read s.mem (stackAddr sp) :=
  Board.read_write_ne s.board s.mem (fun e => h ((stackAddr_inj sp s.sp).mp e)) v

/-- The byte of the first of two pushes. -/
theorem read_push_push_first {s : State} (h : Ram s (stackAddr s.sp)) (v w : Byte) :
    Memory.read ((s.push v).push w).mem (stackAddr s.sp) = v := by
  rw [read_push_stackAddr_ne (byte_ne_sub_one s.sp), read_push_ram h]

/-- The byte of the second of two pushes. -/
theorem read_push_push_second {s : State} (h : Ram s (stackAddr (s.sp - 1))) (v w : Byte) :
    Memory.read ((s.push v).push w).mem (stackAddr (s.sp - 1)) = w :=
  read_push_ram (s := s.push v) h w

theorem push_push_bytesKept (s : State) (v w : Byte) :
    BytesKept [stackAddr s.sp, stackAddr (s.sp - 1)] s ((s.push v).push w) :=
  bytesKept_trans (push_bytesKept s v) (push_bytesKept (s.push v) w)

/-! JSR (46_jump_call R206). -/

theorem exec_jsr (b : Addr) (s : State) : exec (.jsr b) s =
    .next (((s.push (hiByte (s.pc + 2))).push (loByte (s.pc + 2))).setPc b) := by
  rw [← addr_add_three_sub_one]
  rfl

/-- Settles O41: JSR pushes the two bytes of the address of its third byte and sets PC. -/
theorem jsrResult : Obligations.JsrResult := by
  intro s b
  refine ⟨_, exec_jsr b s, rfl, fun h => ?high, fun h => ?low, push_push_bytesKept s _ _, ?frame⟩
  case high =>
    have hread := read_push_push_first h (hiByte (s.pc + 2)) (loByte (s.pc + 2))
    rw [State.setPc_mem, hread, hiByte_toNat, BitVec.toNat_add]
    rfl
  case low =>
    have hread := read_push_push_second h (hiByte (s.pc + 2)) (loByte (s.pc + 2))
    rw [State.setPc_mem, hread, loByte_toNat, BitVec.toNat_add]
    exact Nat.mod_mod_of_dvd _ (by decide)
  case frame =>
    rw [← byte_sub_one_sub_one]
    rfl

/-! RTI (46_jump_call R208; 60_exceptions R272). -/

/-- The byte of the third pull. -/
theorem pulled_pull_pull (s : State) : s.pull.pull.pulled = Memory.read s.mem (stackAddr (s.sp + 3)) :=
  congrArg (fun sp => Memory.read s.mem (stackAddr sp)) (byte_add_one_add_one_add_one s.sp)

/-- RTI from the three bytes above S: the byte of P, and PC low byte first. -/
theorem exec_rti (s : State) : exec .rti s = .next { s with
    sp := s.sp + 3
    p := loadP (Memory.read s.mem (stackAddr (s.sp + 1)))
    pc := mkAddr (Memory.read s.mem (stackAddr (s.sp + 3))) (Memory.read s.mem (stackAddr (s.sp + 2))) } := by
  rw [← pulled_pull_pull, ← pulled_pull, ← byte_add_one_add_one_add_one]
  exact congrArg Host.Outcome.next (returnFromInterrupt_eq (s.advance 1))

/-- Settles O43. -/
theorem rtiResult : Obligations.RtiResult := fun s => ⟨_, exec_rti s, mkAddr_toNat _ _, rfl⟩

/-! The interrupt sequence and BRK (60_exceptions R270; 49_system R240). -/

/-- The memory the interrupt sequence leaves is that of its three pushes: PCH, PCL and the image of P. -/
theorem interruptSequence_mem_eq_push (vector : Addr) (b : Bool) (ret : Addr) (s : State) :
    (interruptSequence vector b ret s).mem = (((s.push (hiByte ret)).push (loByte ret)).push (s.p.image b)).mem := by
  simp only [interruptSequence, State.setPc_mem, State.setP_mem]

/-- Beside the pushes the interrupt sequence writes S, I, D and PC. -/
theorem interruptSequence_eq (vector : Addr) (b : Bool) (ret : Addr) (s : State) :
    interruptSequence vector b ret s = { s with
      sp := s.sp - 3
      p := { s.p with i := true, d := false }
      pc := (interruptSequence vector b ret s).pc
      mem := (interruptSequence vector b ret s).mem } := by
  rw [← byte_sub_one_sub_one_sub_one]
  simp only [interruptSequence, State.setPc, State.setP, State.push, State.store, State.setMem, State.setSp]

/-- PCH is where S pointed. -/
theorem interruptSequence_read_pch {s : State} (h : Ram s (stackAddr s.sp)) (vector : Addr) (b : Bool) (ret : Addr) :
    Memory.read (interruptSequence vector b ret s).mem (stackAddr s.sp) = hiByte ret := by
  rw [interruptSequence_mem_eq_push, read_push_stackAddr_ne (byte_ne_sub_one_sub_one s.sp), read_push_push_first h]

/-- PCL is one below it. -/
theorem interruptSequence_read_pcl {s : State} (h : Ram s (stackAddr (s.sp - 1))) (vector : Addr) (b : Bool) (ret : Addr) :
    Memory.read (interruptSequence vector b ret s).mem (stackAddr (s.sp - 1)) = loByte ret := by
  rw [interruptSequence_mem_eq_push]
  exact read_push_push_first (s := s.push (hiByte ret)) h _ _

/-- The image of P is two below it. -/
theorem interruptSequence_read_p {s : State} (h : Ram s (stackAddr (s.sp - 2))) (vector : Addr) (b : Bool) (ret : Addr) :
    Memory.read (interruptSequence vector b ret s).mem (stackAddr (s.sp - 2)) = s.p.image b := by
  rw [interruptSequence_mem_eq_push]
  rw [← byte_sub_one_sub_one] at h ⊢
  exact read_push_push_second (s := s.push (hiByte ret)) h _ _

theorem interruptSequence_bytesKept (vector : Addr) (b : Bool) (ret : Addr) (s : State) :
    BytesKept (pushedCells s) s (interruptSequence vector b ret s) := by
  rw [pushedCells, ← byte_sub_one_sub_one, BytesKept, interruptSequence_mem_eq_push]
  exact bytesKept_trans (push_push_bytesKept s _ _) (push_bytesKept ((s.push (hiByte ret)).push (loByte ret)) _)

theorem interruptSequence_othersKept (vector : Addr) (b : Bool) (ret : Addr) (s : State) :
    OthersKept s (interruptSequence vector b ret s) := fun _ ha =>
  (interruptSequence_effect vector b ret s).read_other ha

/-- No pushed byte is outside page one, where the vectors are. -/
theorem not_mem_pushedCells {a : Addr} (h : 512 ≤ a.toNat) (s : State) : a ∉ pushedCells s := by
  simp only [pushedCells, List.mem_cons, List.not_mem_nil, or_false, not_or]
  exact ⟨ne_stackAddr _ (.inr h), ne_stackAddr _ (.inr h), ne_stackAddr _ (.inr h)⟩

/-- PC is the word at the vector, which no push reaches. -/
theorem interruptSequence_pc_toNat {vector : Addr} (h : 512 ≤ vector.toNat) (h' : 512 ≤ (vector + 1).toNat) (b : Bool)
    (ret : Addr) (s : State) : (interruptSequence vector b ret s).pc.toNat = wordAt s vector.toNat := by
  have hkept := interruptSequence_bytesKept vector b ret s
  rw [interruptSequence_pc, Memory.read16, hkept _ (not_mem_pushedCells h s), hkept _ (not_mem_pushedCells h' s),
    ← read16_toNat, Memory.read16]

/-- The interrupt sequence enters the handler of its vector. -/
theorem interruptSequence_entersHandler {vector : Addr} (h : 512 ≤ vector.toNat) (h' : 512 ≤ (vector + 1).toNat) (b : Bool)
    (ret : Addr) (s : State) : EntersHandler vector b ret s (interruptSequence vector b ret s) := by
  refine ⟨fun hr => ?pch, fun hr => ?pcl, fun hr => ?p, interruptSequence_bytesKept vector b ret s,
    interruptSequence_othersKept vector b ret s, interruptSequence_pc_toNat h h' b ret s, interruptSequence_eq vector b ret s⟩
  case pch => rw [interruptSequence_read_pch hr, hiByte_toNat]
  case pcl => rw [interruptSequence_read_pcl hr, loByte_toNat]
  case p => rw [interruptSequence_read_p hr, image_toNat]

/-- What PC was before the entry makes no difference to it. -/
theorem entersHandler_of_setPc {vector : Addr} {b : Bool} {ret pc : Addr} {s t : State}
    (h : EntersHandler vector b ret (s.setPc pc) t) : EntersHandler vector b ret s t := h

theorem exec_brk (sig : Byte) (s : State) :
    exec (.brk sig) s = .next (interruptSequence irqVector true (s.pc + 2) (s.advance 2)) := rfl

/-- Settles O48: BRK is the interrupt sequence through $FFFE, and the fetch before it moves PC only. -/
theorem brkResult : Obligations.BrkResult := fun s sig =>
  ⟨_, exec_brk sig s, entersHandler_of_setPc (interruptSequence_entersHandler (by decide) (by decide) true _ _)⟩

/-! What undoes what (60_exceptions R272; 46_jump_call R207; 47_stack). -/

/-- RTI after the interrupt sequence: where the stack is RAM the three bytes pulled are the three pushed. -/
theorem exec_rti_interruptSequence {s : State} (h : ∀ c ∈ pushedCells s, Ram s c) (vector : Addr) (b : Bool) (ret : Addr) :
    exec .rti (interruptSequence vector b ret s) =
      .next { s with pc := ret, mem := (interruptSequence vector b ret s).mem } := by
  have hpch := h (stackAddr s.sp) (by simp [pushedCells])
  have hpcl := h (stackAddr (s.sp - 1)) (by simp [pushedCells])
  have hp := h (stackAddr (s.sp - 2)) (by simp [pushedCells])
  have hsp : (interruptSequence vector b ret s).sp = s.sp - 3 := byte_sub_one_sub_one_sub_one s.sp
  rw [exec_rti, hsp, byte_sub_three_add_one, byte_sub_three_add_two, BitVec.sub_add_cancel,
    interruptSequence_read_pch hpch, interruptSequence_read_pcl hpcl, interruptSequence_read_p hp, mkAddr_hiByte_loByte, loadP_of_toNat_eq_imageOf (image_toNat s.p b)]
  simp only [interruptSequence_a, interruptSequence_x, interruptSequence_y, interruptSequence_nmiPending,
    interruptSequence_run, interruptSequence_env, interruptSequence_board, interruptSequence_draws]

/-- Settles O19: BRK is the interrupt sequence with PC two past it. -/
theorem rtiUndoesInterrupt : Obligations.RtiUndoesInterrupt := by
  refine ⟨?sequence, ?brk⟩
  case sequence =>
    intro s vector b h
    exact ⟨_, exec_rti_interruptSequence h vector b s.pc, rfl⟩
  case brk =>
    intro s sig h
    exact ⟨_, exec_brk sig s, _, exec_rti_interruptSequence (s := s.advance 2) h _ _ _, rfl⟩

/-- RTS from the two bytes above S, PC low byte first, and one on. -/
theorem exec_rts (s : State) : exec .rts s = .next { s with
    sp := s.sp + 2
    pc := mkAddr (Memory.read s.mem (stackAddr (s.sp + 2))) (Memory.read s.mem (stackAddr (s.sp + 1))) + 1 } := by
  rw [← pulled_pull, ← byte_add_one_add_one]
  exact congrArg Host.Outcome.next (returnFromSubroutine_eq (s.advance 1))

/-- RTS after two pushes: where the stack is RAM the two bytes pulled are the two pushed. -/
theorem exec_rts_push_push {s : State} (hhi : Ram s (stackAddr s.sp)) (hlo : Ram s (stackAddr (s.sp - 1))) (hi lo : Byte)
    (pc : Addr) : exec .rts (((s.push hi).push lo).setPc pc) =
      .next { s with pc := mkAddr hi lo + 1, mem := ((s.push hi).push lo).mem } := by
  have hsp : (((s.push hi).push lo).setPc pc).sp = s.sp - 2 := byte_sub_one_sub_one s.sp
  rw [exec_rts, hsp, byte_sub_two_add_one, BitVec.sub_add_cancel, State.setPc_mem, read_push_push_first hhi,
    read_push_push_second hlo]
  rfl

/-- Settles O20: the word RTS pulls is the address JSR pushed, one less than the return address. -/
theorem rtsUndoesJsr : Obligations.RtsUndoesJsr := by
  intro s b hhi hlo
  refine ⟨_, exec_jsr b s, _, exec_rts_push_push hhi hlo _ _ b, ?state, push_push_bytesKept s _ _⟩
  rw [mkAddr_hiByte_loByte, addr_add_two_add_one]
  rfl

/-- The byte pulled right after a push is the byte pushed, where the stack is RAM. -/
theorem pulled_push_ram {s : State} (h : Ram s (stackAddr s.sp)) (v : Byte) : (s.push v).pulled = v := by
  exact (pulled_push s v).trans (if_pos h)

/-- A fetch and a pull after a fetch and a push: S is back and PC two on. -/
theorem advance_pull_push (s : State) (v : Byte) :
    (((s.advance 1).push v).advance 1).pull = { s with pc := s.pc + 2, mem := (s.push v).mem } :=
  calc (((s.advance 1).push v).advance 1).pull
      = { s with sp := s.sp - 1 + 1, pc := s.pc + 1 + 1, mem := (s.push v).mem } := rfl
    _ = { s with pc := s.pc + 2, mem := (s.push v).mem } := by rw [BitVec.sub_add_cancel, addr_add_one_add_one]

/-- Settles O21: each pull takes the byte pushed and, but for PLP, ends with SetNZ of it. PLP loads the image of P. -/
theorem pullUndoesPush : Obligations.PullUndoesPush := by
  refine ⟨?pha, ?phx, ?phy, ?php⟩
  case pha | phx | phy =>
    intro s h
    refine ⟨(s.advance 1).push _, rfl, runs_of_setNZ rfl ?_⟩
    rw [advance_pull_push, pulled_push_ram (s := s.advance 1) h]
    rfl
  case php =>
    intro s h
    refine ⟨(s.advance 1).push (s.p.image true), rfl, _, rfl, ?_⟩
    rw [advance_pull_push, pulled_push_ram (s := s.advance 1) h, loadP_of_toNat_eq_imageOf (image_toNat s.p true)]
    rfl

end Sys2Proof.Proofs
end

section
/-! PROOFS of the statements about memory's canonical form (20_memory) and the boundary (60_exceptions; 10_state section 3):
what one step does, by what is due. -/

namespace Sys2Proof.Proofs

open Machine Stmt

/-! Canonical memory is determined by what it reads (20_memory R50). -/

theorem lookup_eq_unlisted {m : Memory} {n : Nat} (h : ∀ c ∈ m, c.1 ≠ n) : Memory.lookup m n = Memory.unlisted := by
  induction m with
  | nil => rfl
  | cons c m ih =>
    obtain ⟨hc, hm⟩ := List.forall_mem_cons.mp h
    rw [Memory.lookup, if_neg hc, ih hm]

theorem wf_tail {c : Host.Cell} {m : Memory} (h : Memory.wf (c :: m)) : Memory.wf m :=
  ⟨h.1.of_cons, fun d hd => h.2 d (List.mem_cons_of_mem c hd)⟩

/-- Below its first entry, and at it in what comes after, a canonical memory lists nothing. -/
theorem lookup_eq_unlisted_of_le {c : Host.Cell} {m : Memory} (h : Memory.wf (c :: m)) {n : Nat} (hn : n ≤ c.1) :
    Memory.lookup m n = Memory.unlisted :=
  lookup_eq_unlisted fun d hd => Nat.ne_of_gt (Nat.lt_of_le_of_lt hn ((List.pairwise_cons.mp h.1).1 d hd))

theorem lookup_cons_of_lt {c : Host.Cell} {m : Memory} (h : Memory.wf (c :: m)) {n : Nat} (hn : n < c.1) :
    Memory.lookup (c :: m) n = Memory.unlisted := by
  rw [Memory.lookup, if_neg (Nat.ne_of_gt hn), lookup_eq_unlisted_of_le h hn.le]

theorem lookup_cons_self (c : Host.Cell) (m : Memory) : Memory.lookup (c :: m) c.1 = c.2 := if_pos rfl

/-- No canonical memory that lists something reads everywhere as one that lists nothing. -/
theorem lookup_head_ne_unlisted {c : Host.Cell} {m : Memory} (h : Memory.wf (c :: m)) :
    c.1 < 65536 ∧ Memory.lookup (c :: m) c.1 ≠ Memory.unlisted := by
  obtain ⟨hlt, hne⟩ := h.2 c List.mem_cons_self
  exact ⟨hlt, (lookup_cons_self c m).symm ▸ hne⟩

/-- The first entries of two canonical memories with equal reads are at the same address: at a lower one of the two the
other memory would list nothing. -/
theorem head_le_of_lookup_eq {c d : Host.Cell} {m n : Memory} (hm : Memory.wf (c :: m)) (hn : Memory.wf (d :: n))
    (h : ∀ k < 65536, Memory.lookup (c :: m) k = Memory.lookup (d :: n) k) : d.1 ≤ c.1 := by
  by_contra hlt
  obtain ⟨hc, hne⟩ := lookup_head_ne_unlisted hm
  exact hne ((h c.1 hc).trans (lookup_cons_of_lt hn (Nat.lt_of_not_le hlt)))

theorem eq_of_lookup_eq {m n : Memory} (hm : m.wf) (hn : n.wf)
    (h : ∀ k < 65536, Memory.lookup m k = Memory.lookup n k) : m = n := by
  induction m generalizing n with
  | nil =>
    cases n with
    | nil => rfl
    | cons d n =>
      obtain ⟨hd, hne⟩ := lookup_head_ne_unlisted hn
      exact absurd (h d.1 hd).symm hne
  | cons c m ih =>
    cases n with
    | nil =>
      obtain ⟨hc, hne⟩ := lookup_head_ne_unlisted hm
      exact absurd (h c.1 hc) hne
    | cons d n =>
      obtain ⟨hc, -⟩ := lookup_head_ne_unlisted hm
      have haddr : c.1 = d.1 :=
        Nat.le_antisymm (head_le_of_lookup_eq hn hm fun k hk => (h k hk).symm) (head_le_of_lookup_eq hm hn h)
      have hbyte : c.2 = d.2 := by
        rw [← lookup_cons_self c m, h c.1 hc, haddr, lookup_cons_self]
      have htail : ∀ k < 65536, Memory.lookup m k = Memory.lookup n k := by
        intro k hk
        by_cases hkc : k ≤ c.1
        · rw [lookup_eq_unlisted_of_le hm hkc, lookup_eq_unlisted_of_le hn (haddr ▸ hkc)]
        · have hk' := h k hk
          rwa [Memory.lookup, Memory.lookup, if_neg (by omega), if_neg (by omega)] at hk'
      rw [Prod.ext haddr hbyte, ih (wf_tail hm) (wf_tail hn) htail]

/-- Settles O9: reads of the 65,536 addresses are what the lists hold at the numbers below 65536. -/
theorem canonicalMemoryIsDetermined : Obligations.CanonicalMemoryIsDetermined := by
  intro m n hm hn h
  refine eq_of_lookup_eq hm hn fun k hk => ?_
  have hread := h (BitVec.ofNat 16 k)
  rwa [Memory.read, Memory.read, BitVec.toNat_ofNat, Nat.mod_eq_of_lt hk] at hread

/-! The arrival of a boundary's inputs (60_exceptions R260; 10_state R37 to R39). -/

theorem arrive_of_stopped {s : State} (h : s.run = .stopped) :
    s.arrive = { s with env := s.env.tail, mem := Memory.writeAll s.mem s.inputs.writes } := if_pos h

theorem arrive_of_not_stopped {s : State} (h : s.run ≠ .stopped) :
    s.arrive = { s with
      env := s.env.tail
      mem := Memory.writeAll s.mem s.inputs.writes
      p := { s.p with v := s.p.v || s.inputs.soEdge }
      nmiPending := s.nmiPending || s.inputs.nmiEdge } := if_neg h

/-- What the arrival leaves as it was. -/
theorem arrive_eq (s : State) :
    s.arrive = { s with env := s.env.tail, p := { s.p with v := s.arrive.p.v }, nmiPending := s.arrive.nmiPending,
                        mem := s.arrive.mem } := by
  by_cases h : s.run = .stopped
  · rw [arrive_of_stopped h]
  · rw [arrive_of_not_stopped h]

theorem arrive_mem (s : State) : s.arrive.mem = Memory.writeAll s.mem s.inputs.writes := by
  by_cases h : s.run = .stopped
  · rw [arrive_of_stopped h]
  · rw [arrive_of_not_stopped h]

theorem arrive_run (s : State) : s.arrive.run = s.run := by rw [arrive_eq]

theorem arrive_pc (s : State) : s.arrive.pc = s.pc := by rw [arrive_eq]

theorem arrive_i (s : State) : s.arrive.p.i = s.p.i := by rw [arrive_eq]

theorem arrive_env (s : State) : s.arrive.env = s.env.tail := by rw [arrive_eq]

theorem arrive_board (s : State) : s.arrive.board = s.board := by rw [arrive_eq]

/-- Settles O11: the two cases of the run state, and what a list of writes leaves in memory. -/
theorem inputsArrive : Obligations.InputsArrive := by
  intro s
  refine ⟨arrive_eq s, fun h => ?edges, fun h => ?stopped, fun a ha => ?kept, fun ws rest a v hw ha => ?written⟩
  case edges =>
    rw [arrive_of_not_stopped h]
    exact ⟨rfl, rfl⟩
  case stopped =>
    rw [arrive_of_stopped h]
    exact ⟨rfl, rfl⟩
  case kept => rw [arrive_mem, Memory.read_writeAll_other _ _ _ ha]
  case written => rw [arrive_mem, hw, Memory.read_writeAll_last _ _ _ _ _ ha]

/-! One step, by what is due (60_exceptions R262 to R269; 30_encoding R80). -/

section Step

variable {s : State}

theorem step_of_reset (h : s.inputs.reset = true) : step s = .next (resetSequence s.arrive) := if_pos h

theorem step_of_rdyLow (hreset : s.inputs.reset = false) (h : s.inputs.rdyLow = true) : step s = .next s.arrive := by
  simp [step, boundary, hreset, h]

theorem step_of_stopped (hreset : s.inputs.reset = false) (h : s.run = .stopped) : step s = .next s.arrive := by
  simp [step, boundary, hreset, arrive_run, h]

theorem step_of_waiting (hreset : s.inputs.reset = false) (hrdy : s.inputs.rdyLow = false) (h : s.run = .waiting) :
    step s = .next (waitingStep s.inputs s.arrive) := by
  simp [step, boundary, hreset, hrdy, arrive_run, h]

theorem step_of_running (hreset : s.inputs.reset = false) (hrdy : s.inputs.rdyLow = false) (h : s.run = .running) :
    step s = if s.arrive.nmiPending then .next (takeNmi s.arrive)
      else if s.inputs.irqLow && !s.arrive.p.i then .next (takeIrq s.arrive)
      else exec (fetchInstr s.arrive) s.arrive := by
  simp [step, boundary, hreset, hrdy, arrive_run, h]

theorem step_of_nmi (hreset : s.inputs.reset = false) (hrdy : s.inputs.rdyLow = false) (hrun : s.run ≠ .stopped)
    (h : s.arrive.nmiPending = true) : step s = .next (takeNmi s.arrive) := by
  cases hs : s.run with
  | running => rw [step_of_running hreset hrdy hs, if_pos h]
  | waiting => rw [step_of_waiting hreset hrdy hs, waitingStep, if_pos h]
  | stopped => exact absurd hs hrun

theorem step_of_irq (hreset : s.inputs.reset = false) (hrdy : s.inputs.rdyLow = false) (hrun : s.run ≠ .stopped)
    (hnmi : s.arrive.nmiPending = false) (hirq : s.inputs.irqLow = true) (hi : s.p.i = false) :
    step s = .next (takeIrq s.arrive) := by
  rw [← arrive_i] at hi
  cases hs : s.run with
  | running => simp [step_of_running hreset hrdy hs, hnmi, hirq, hi]
  | waiting => simp [step_of_waiting hreset hrdy hs, waitingStep, hnmi, hirq, hi]
  | stopped => exact absurd hs hrun

theorem step_of_fetch (hreset : s.inputs.reset = false) (hrdy : s.inputs.rdyLow = false) (hrun : s.run = .running)
    (hnmi : s.arrive.nmiPending = false) (hirq : s.inputs.irqLow = false ∨ s.arrive.p.i = true) :
    step s = exec (fetchInstr s.arrive) s.arrive := by
  rcases hirq with hirq | hi
  · simp [step_of_running hreset hrdy hrun, hnmi, hirq]
  · simp [step_of_running hreset hrdy hrun, hnmi, hi]

end Step

/-- With an environment that drives nothing no input is active. -/
theorem inputs_of_env_nil {s : State} (h : s.env = []) : s.inputs = Inputs.idle := by
  rw [State.inputs, h, List.headD_nil]

/-- What the bytes at PC decode to is what is fetched. -/
theorem fetchInstr_of_decode {s : State} {i : Instr} {rest : List Byte}
    (h : decode [Memory.read s.mem s.pc, Memory.read s.mem (s.pc + 1), Memory.read s.mem (s.pc + 2)] = .ok (i, rest)) :
    fetchInstr s = i :=
  ((decode_cons_eq_ok_iff _ _ rest i).mp h).2.1

/-- With an environment that drives nothing and nothing pending, the instruction at PC runs. -/
theorem step_of_idle {s : State} (hrun : s.run = .running) (henv : s.env = []) (hnmi : s.nmiPending = false) :
    step s = exec (fetchInstr s) s := by
  have hidle := inputs_of_env_nil henv
  have harrive := arrive_idle s henv
  have hstep : step s = exec (fetchInstr s.arrive) s.arrive :=
    step_of_fetch (by rw [hidle]; rfl) (by rw [hidle]; rfl) hrun (by rwa [harrive]) (.inl (by rw [hidle]; rfl))
  rwa [harrive] at hstep

/-- Settles O5. -/
theorem stepRunsDecodedInstruction : Obligations.StepRunsDecodedInstruction := by
  refine ⟨?inputs, ?idle⟩
  case inputs =>
    intro s i rest hrun hreset hrdy hnmi hirq hdecode
    rw [← arrive_pc] at hdecode
    rw [step_of_fetch hreset hrdy hrun hnmi hirq, fetchInstr_of_decode hdecode]
  case idle =>
    intro s i rest hrun henv hnmi hdecode
    rw [step_of_idle hrun henv hnmi, fetchInstr_of_decode hdecode]

/-- Settles O17. -/
theorem rdyLowHalts : Obligations.RdyLowHalts := fun _ => step_of_rdyLow

/-! No step stops, and every step keeps memory canonical (60_exceptions R274). -/

theorem exec_goesOn (i : Instr) (s : State) : GoesOn (exec i s) := by
  cases i <;> exact ⟨_, rfl⟩

/-- What one step can be, whatever is due. -/
theorem step_cases (s : State) : step s = .next (resetSequence s.arrive) ∨ step s = .next s.arrive ∨
    step s = .next (takeNmi s.arrive) ∨ step s = .next (takeIrq s.arrive) ∨
    step s = .next (s.arrive.setRun .running) ∨ step s = exec (fetchInstr s.arrive) s.arrive := by
  cases hreset : s.inputs.reset with
  | true => simp [step_of_reset hreset]
  | false =>
    cases hrdy : s.inputs.rdyLow with
    | true => simp [step_of_rdyLow hreset hrdy]
    | false =>
      cases hrun : s.run with
      | stopped => simp [step_of_stopped hreset hrun]
      | waiting =>
        rw [step_of_waiting hreset hrdy hrun, waitingStep]
        split_ifs <;> simp
      | running =>
        rw [step_of_running hreset hrdy hrun]
        split_ifs <;> simp

/-- Settles O6. -/
theorem everyStepGoesOn : Obligations.EveryStepGoesOn := by
  refine ⟨exec_goesOn, fun s => ?_⟩
  rcases step_cases s with h | h | h | h | h | h
  any_goals exact ⟨_, h⟩
  exact h ▸ exec_goesOn _ _

/-- What a step does to the memory its inputs leave. -/
theorem step_outcomeEffect (s : State) : OutcomeEffect s.arrive (step s) := by
  rcases step_cases s with h | h | h | h | h | h
  all_goals rw [h]
  · exact .same rfl
  · exact .same rfl
  · exact interruptSequence_effect nmiVector false s.arrive.pc ((s.arrive.setNmi false).setRun .running)
  · exact interruptSequence_effect irqVector false s.arrive.pc (s.arrive.setRun .running)
  · exact .same rfl
  · exact exec_outcomeEffect _ _

/-- Settles O7: other agents' writes and the writes of the step keep the canonical form. -/
theorem stepKeepsMemoryCanonical : Obligations.StepKeepsMemoryCanonical := by
  intro s t hs ht
  have heffect := step_outcomeEffect s
  rw [ht] at heffect
  exact MemoryEffect.wf heffect (arrive_wf hs)

/-- Settles O8. -/
theorem resetMemoryIsCanonical : Obligations.ResetMemoryIsCanonical := Memory.nil_wf

/-- Settles O10. -/
theorem resetState : Obligations.ResetState :=
  ⟨rfl, rfl, read16_toNat State.reset 0xFFFC, rfl, rfl, rfl, fun _ => rfl⟩

/-! Reset, NMI and IRQ (60_exceptions R263, R264, R266). -/

/-- Settles O12. -/
theorem resetEvent : Obligations.ResetEvent := by
  intro s h
  refine ⟨_, step_of_reset h, rfl, rfl, read16_toNat s.arrive resetVector, rfl, rfl, rfl, arrive_env s,
    arrive_board s⟩

theorem takeNmi_entersHandler (s : State) :
    EntersHandler 0xFFFA false s.pc { s with nmiPending := false, run := .running } (takeNmi s) :=
  interruptSequence_entersHandler (by decide) (by decide) false s.pc { s with nmiPending := false, run := .running }

theorem takeIrq_entersHandler (s : State) :
    EntersHandler 0xFFFE false s.pc { s with run := .running } (takeIrq s) :=
  interruptSequence_entersHandler (by decide) (by decide) false s.pc { s with run := .running }

/-- Settles O13. -/
theorem nmiTaken : Obligations.NmiTaken := by
  intro s hreset hrdy hrun hnmi
  rw [← arrive_pc]
  exact ⟨_, step_of_nmi hreset hrdy hrun hnmi, takeNmi_entersHandler s.arrive⟩

/-- Settles O14. -/
theorem irqTaken : Obligations.IrqTaken := by
  intro s hreset hrdy hrun hnmi hirq hi
  rw [← arrive_pc]
  exact ⟨_, step_of_irq hreset hrdy hrun hnmi hirq hi, takeIrq_entersHandler s.arrive⟩

/-! A masked IRQ (10_state R30; 60_exceptions R264). -/

/-- The level of IRQ- is no edge and no write, so nothing of it arrives. -/
theorem withIrq_arrive (s : State) (low : Bool) : (withIrq s low).arrive = s.arrive := rfl

theorem boundary_of_masked {s : State} (hrun : s.run = .running) (hi : s.p.i = true) (inp : Inputs) (low : Bool) :
    boundary { inp with irqLow := low } s = boundary inp s := by
  simp [boundary, hrun, hi]

/-- Settles O15. -/
theorem maskedIrqChangesNothing : Obligations.MaskedIrqChangesNothing := by
  intro s low hrun hi
  show boundary { s.inputs with irqLow := low } (withIrq s low).arrive = boundary s.inputs s.arrive
  rw [withIrq_arrive]
  exact boundary_of_masked ((arrive_run s).trans hrun) ((arrive_i s).trans hi) s.inputs low

/-! STOPPED and WAITING last (60_exceptions R268, R269). -/

/-- What holds of every sample to come, and of inputs that are idle, holds of the coming boundary's. -/
theorem inputs_of_forall {P : Inputs → Prop} (hidle : P Inputs.idle) {s : State} (h : ∀ inp ∈ s.env, P inp) :
    P s.inputs := by
  unfold State.inputs
  cases hs : s.env with
  | nil => exact hidle
  | cons inp env => exact h inp (hs ▸ List.mem_cons_self)

/-- Samples to come after a boundary were to come before it. -/
theorem forall_env_arrive {P : Inputs → Prop} {s : State} (h : ∀ inp ∈ s.env, P inp) :
    ∀ inp ∈ s.arrive.env, P inp := by
  rw [arrive_env]
  exact fun inp hinp => h inp (List.mem_of_mem_tail hinp)

/-- From a stopped state, with no reset to come, every state reached is stopped, and no reset is to come. -/
theorem reaches_of_stopped {s t : State} (hs : s.run = .stopped) (henv : ∀ inp ∈ s.env, inp.reset = false)
    (ht : Reaches s t) : t = { s with env := t.env, mem := t.mem } ∧ ∀ inp ∈ t.env, inp.reset = false := by
  induction ht with
  | here => exact ⟨rfl, henv⟩
  | @next t u _ hu ih =>
    obtain ⟨heq, ht⟩ := ih
    have hrun : t.run = .stopped := (congrArg State.run heq).trans hs
    have hreset : t.inputs.reset = false := inputs_of_forall (P := fun inp => inp.reset = false) rfl ht
    rw [step_of_stopped hreset hrun, Host.Outcome.next.injEq] at hu
    subst hu
    refine ⟨?_, forall_env_arrive ht⟩
    calc t.arrive = { t with env := t.arrive.env, mem := t.arrive.mem } := by rw [arrive_of_stopped hrun]
      _ = { s with env := t.arrive.env, mem := t.arrive.mem } :=
        congrArg (fun r : State => { r with env := t.arrive.env, mem := t.arrive.mem }) heq

/-- A sample with nothing that ends a wait. -/
def Quiet (inp : Inputs) : Prop := inp.reset = false ∧ inp.nmiEdge = false ∧ inp.irqLow = false

theorem waitingStep_quiet {inp : Inputs} {s : State} (hnmi : s.nmiPending = false) (hirq : inp.irqLow = false) :
    waitingStep inp s = s := by
  simp [waitingStep, hnmi, hirq]

/-- A waiting step at a quiet boundary only takes in the inputs, whatever RDY is. -/
theorem step_of_quiet {s : State} (hrun : s.run = .waiting) (hnmi : s.arrive.nmiPending = false) (hq : Quiet s.inputs) :
    step s = .next s.arrive := by
  obtain ⟨hreset, -, hirq⟩ := hq
  cases hrdy : s.inputs.rdyLow with
  | true => exact step_of_rdyLow hreset hrdy
  | false => rw [step_of_waiting hreset hrdy hrun, waitingStep_quiet hnmi hirq]

/-- From a waiting state with no NMI pending and only quiet samples to come, every state reached is such a state. -/
theorem reaches_of_waiting {s t : State} (hs : s.run = .waiting) (hn : s.nmiPending = false)
    (henv : ∀ inp ∈ s.env, Quiet inp) (ht : Reaches s t) :
    t = { s with env := t.env, mem := t.mem, p := { s.p with v := t.p.v } } ∧ ∀ inp ∈ t.env, Quiet inp := by
  induction ht with
  | here => exact ⟨rfl, henv⟩
  | @next t u _ hu ih =>
    obtain ⟨heq, ht⟩ := ih
    have hrun : t.run = .waiting := (congrArg State.run heq).trans hs
    have hnmi : t.nmiPending = false := (congrArg State.nmiPending heq).trans hn
    have hq : Quiet t.inputs := inputs_of_forall ⟨rfl, rfl, rfl⟩ ht
    have harrive : t.arrive = { t with env := t.arrive.env, mem := t.arrive.mem, p := { t.p with v := t.arrive.p.v } } := by
      rw [arrive_of_not_stopped (by rw [hrun]; decide), hnmi, hq.2.1]
      rfl
    have hnmi' : t.arrive.nmiPending = false := by rw [harrive, hnmi]
    rw [step_of_quiet hrun hnmi' hq, Host.Outcome.next.injEq] at hu
    subst hu
    refine ⟨?_, forall_env_arrive ht⟩
    calc t.arrive = { t with env := t.arrive.env, mem := t.arrive.mem, p := { t.p with v := t.arrive.p.v } } := harrive
      _ = { s with env := t.arrive.env, mem := t.arrive.mem, p := { s.p with v := t.arrive.p.v } } :=
        congrArg (fun r : State => { r with
          env := t.arrive.env, mem := t.arrive.mem, p := { r.p with v := t.arrive.p.v } }) heq

/-- Settles O16. The last clause: with I set a low IRQ- ends the wait and nothing more. -/
theorem waitingAndStoppedLast : Obligations.WaitingAndStoppedLast := by
  refine ⟨fun s t hs henv ht => (reaches_of_stopped hs henv ht).1,
    fun s t hs hn henv ht => (reaches_of_waiting hs hn henv ht).1, fun s hs hreset hrdy hnmi hirq hi => ?_⟩
  have hstep : waitingStep s.inputs s.arrive = s.arrive.setRun .running := by
    rw [← arrive_i] at hi
    simp [waitingStep, hnmi, hirq, hi]
  rw [step_of_waiting hreset hrdy hs, hstep]
  rfl

/-! An NMI whose handler is one RTI (60_exceptions R263, R272). -/

/-- At a boundary where nothing is due the byte of RTI runs RTI. -/
theorem step_of_rti {s : State} (hrun : s.run = .running) (henv : s.env = []) (hnmi : s.nmiPending = false)
    (h : Memory.read s.mem s.pc = 0x40) : step s = exec .rti s := by
  rw [step_of_idle hrun henv hnmi, fetchInstr, h]
  rfl

/-- Settles O18: the sequence enters the handler, whose byte no push reaches, and RTI takes back what was pushed. -/
theorem nmiThenRtiResumes : Obligations.NmiThenRtiResumes := by
  intro s h hrun henv hnmi hvector hbyte hcell hram
  have hidle := inputs_of_env_nil henv
  have hstep := step_of_nmi (s := s) (by rw [hidle]; rfl) (by rw [hidle]; rfl) (by rw [hrun]; decide)
    (by rwa [arrive_idle s henv])
  rw [arrive_idle s henv] at hstep
  obtain ⟨-, -, -, hkept, -, hpc, hframe⟩ := takeNmi_entersHandler s
  have hpc' : (takeNmi s).pc = h := BitVec.eq_of_toNat_eq (hpc.trans hvector.symm)
  have hnext : step (takeNmi s) = exec .rti (takeNmi s) := by
    refine step_of_rti ?run ?env ?nmi ?byte
    case run | nmi => rw [hframe]
    case env =>
      rw [hframe]
      exact henv
    case byte =>
      rw [hpc', hkept h hcell]
      exact hbyte
  have hrti := exec_rti_interruptSequence (s := (s.setNmi false).setRun .running) hram nmiVector false s.pc
  refine ⟨takeNmi s, _, hstep, hpc', ?i, ?d, hnext.trans hrti, ?frame, hkept⟩
  case i | d => rw [hframe]
  case frame =>
    rw [← hrun]
    rfl

end Sys2Proof.Proofs
end

section
/-! PROOFS of the statements over all instructions: the writers of each register and flag, and where D matters
(10_state sections 1 and 2). -/

namespace Sys2Proof.Proofs

open Machine Stmt

/-! The footprint of an instruction: which registers, flags and whether memory it can change. -/

/-- The parts of the state that an instruction may write. PC and the model's own counter are left out: any may. -/
structure Footprint where
  a : Bool := false
  x : Bool := false
  y : Bool := false
  sp : Bool := false
  mem : Bool := false
  run : Bool := false
  n : Bool := false
  v : Bool := false
  d : Bool := false
  i : Bool := false
  z : Bool := false
  c : Bool := false

/-- The writers by mnemonic, and by format where it matters: a shift, INC or DEC writes A or memory, and BIT immediate writes
Z alone (10_state R20 to R32). -/
def footprintOf (o : Op) (f : Format) : Footprint :=
  match o with
  | .lda | .txa | .tya | .and | .ora | .eor => { a := true, n := true, z := true }
  | .ldx | .tax | .tsx | .inx | .dex => { x := true, n := true, z := true }
  | .ldy | .tay | .iny | .dey => { y := true, n := true, z := true }
  | .pla => { a := true, sp := true, n := true, z := true }
  | .plx => { x := true, sp := true, n := true, z := true }
  | .ply => { y := true, sp := true, n := true, z := true }
  | .plp | .rti => { sp := true, n := true, v := true, d := true, i := true, z := true, c := true }
  | .txs | .rts => { sp := true }
  | .sta | .stx | .sty | .stz => { mem := true }
  | .pha | .php | .phx | .phy | .jsr => { sp := true, mem := true }
  | .adc | .sbc => { a := true, n := true, v := true, z := true, c := true }
  | .cmp | .cpx | .cpy => { n := true, z := true, c := true }
  | .inc | .dec => { a := f == .acc, mem := f != .acc, n := true, z := true }
  | .asl | .lsr | .rol | .ror => { a := f == .acc, mem := f != .acc, n := true, z := true, c := true }
  | .bit => { n := f != .imm, v := f != .imm, z := true }
  | .trb | .tsb => { mem := true, z := true }
  | .clc | .sec => { c := true }
  | .cld | .sed => { d := true }
  | .cli | .sei => { i := true }
  | .clv => { v := true }
  | .brk => { sp := true, mem := true, d := true, i := true }
  | .wai | .stp => { run := true }
  | .bcc | .bcs | .beq | .bne | .bmi | .bpl | .bvc | .bvs | .bra | .jmp | .nop | .reserved => {}

/-- `t` where `w` allows a change, and `s` elsewhere. -/
def Footprint.restrict (w : Footprint) (s t : State) : State :=
  { s with
    a := bif w.a then t.a else s.a
    x := bif w.x then t.x else s.x
    y := bif w.y then t.y else s.y
    sp := bif w.sp then t.sp else s.sp
    pc := t.pc
    p :=
      { n := bif w.n then t.p.n else s.p.n
        v := bif w.v then t.p.v else s.p.v
        d := bif w.d then t.p.d else s.p.d
        i := bif w.i then t.p.i else s.p.i
        z := bif w.z then t.p.z else s.p.z
        c := bif w.c then t.p.c else s.p.c }
    run := bif w.run then t.run else s.run
    mem := bif w.mem then t.mem else s.mem
    draws := t.draws }

/-- ADC writes A, N, V, Z and C, in both of its modes. -/
theorem addWithCarry_frame (src : Source) (s : State) :
    addWithCarry src s = (footprintOf .adc .imm).restrict s (addWithCarry src s) := by
  cases hd : s.p.d with
  | false => rw [addWithCarry_binary src s hd]; rfl
  | true =>
    rw [addWithCarry_decimal src s hd]
    cases bcdValid s.a && bcdValid (operand src s) <;> rfl

/-- So does SBC. -/
theorem subWithBorrow_frame (src : Source) (s : State) :
    subWithBorrow src s = (footprintOf .sbc .imm).restrict s (subWithBorrow src s) := by
  cases hd : s.p.d with
  | false => rw [subWithBorrow_binary src s hd]; rfl
  | true =>
    rw [subWithBorrow_decimal src s hd]
    cases bcdValid s.a && bcdValid (operand src s) <;> rfl

/-- A branch writes nothing but PC, taken or not. -/
theorem branch_frame (cond : Bool) (off : Byte) (s : State) :
    branch cond off s = (footprintOf .bra .rel).restrict s (branch cond off s) := by
  rw [branch_eq]
  rfl

/-- JSR writes memory, S and PC. -/
theorem callSubroutine_frame (b : Addr) (s : State) :
    callSubroutine b s = (footprintOf .jsr .abs).restrict s (callSubroutine b s) := by
  rw [callSubroutine_eq]
  rfl

theorem restrict_brk_eq (s t : State) : (footprintOf .brk .brk).restrict s t =
    { s with sp := t.sp, p := { s.p with i := t.p.i, d := t.p.d }, pc := t.pc, mem := t.mem, draws := t.draws } := rfl

/-- BRK writes memory, S, I, D and PC. -/
theorem interruptSequence_frame (vector : Addr) (b : Bool) (ret : Addr) (s : State) :
    interruptSequence vector b ret s = (footprintOf .brk .brk).restrict s (interruptSequence vector b ret s) := by
  rw [restrict_brk_eq, interruptSequence_sp, interruptSequence_p, interruptSequence_draws, byte_sub_one_sub_one_sub_one]
  exact interruptSequence_eq vector b ret s

/-- No instruction changes anything outside its footprint. -/
theorem exec_footprint (i : Instr) (s : State) :
    ∃ t, exec i s = .next t ∧ t = (footprintOf i.op i.format).restrict s t := by
  cases i with
  | adcImm | adcZp | adcZpx | adcAbs | adcAbsx | adcAbsy | adcIndx | adcIndy | adcZpind =>
    exact ⟨_, rfl, addWithCarry_frame _ s⟩
  | sbcImm | sbcZp | sbcZpx | sbcAbs | sbcAbsx | sbcAbsy | sbcIndx | sbcIndy | sbcZpind =>
    exact ⟨_, rfl, subWithBorrow_frame _ s⟩
  | bcc | bcs | beq | bne | bmi | bpl | bvc | bvs | bra => exact ⟨_, rfl, branch_frame _ _ s⟩
  | jsr => exact ⟨_, rfl, callSubroutine_frame _ s⟩
  | rti => exact ⟨_, exec_rti s, rfl⟩
  | brk => exact ⟨_, rfl, interruptSequence_frame _ _ _ (s.advance 2)⟩
  | _ => exact ⟨_, rfl, rfl⟩

/-- The state an instruction answers, within its footprint. -/
theorem eq_restrict_of_exec {i : Instr} {s t : State} (h : exec i s = .next t) :
    t = (footprintOf i.op i.format).restrict s t := by
  obtain ⟨u, hu, hframe⟩ := exec_footprint i s
  rw [h, Host.Outcome.next.injEq] at hu
  rwa [← hu] at hframe

/-- A value that differs from the old one was allowed to. -/
theorem allowed_of_ne {α : Type} {allowed : Bool} {new old : α} (h : new = bif allowed then new else old)
    (hne : new ≠ old) : allowed = true := by
  cases allowed with
  | true => rfl
  | false => exact absurd h hne

/-! The registers, memory and the run state (10_state R20 to R25, R40). -/

theorem footprintOf_a {o : Op} {f : Format} (h : (footprintOf o f).a = true) :
    o ∈ ([.lda, .pla, .txa, .tya, .adc, .sbc, .and, .ora, .eor] : List Op) ∨ f = .acc := by
  cases o <;> simp_all [footprintOf]

theorem footprintOf_x {o : Op} {f : Format} (h : (footprintOf o f).x = true) :
    o ∈ ([.ldx, .plx, .tax, .tsx, .inx, .dex] : List Op) := by
  cases o <;> simp_all [footprintOf]

theorem footprintOf_y {o : Op} {f : Format} (h : (footprintOf o f).y = true) :
    o ∈ ([.ldy, .ply, .tay, .iny, .dey] : List Op) := by
  cases o <;> simp_all [footprintOf]

theorem footprintOf_sp {o : Op} {f : Format} (h : (footprintOf o f).sp = true) :
    o ∈ ([.txs, .pha, .php, .phx, .phy, .pla, .plp, .plx, .ply, .jsr, .rts, .rti, .brk] : List Op) := by
  cases o <;> simp_all [footprintOf]

theorem footprintOf_mem {o : Op} {f : Format} (h : (footprintOf o f).mem = true) :
    o ∈ ([.sta, .stx, .sty, .stz, .pha, .php, .phx, .phy, .jsr, .brk, .trb, .tsb] : List Op) ∨
      (o ∈ ([.asl, .lsr, .rol, .ror, .inc, .dec] : List Op) ∧ f ≠ .acc) := by
  cases o <;> simp_all [footprintOf]

theorem footprintOf_run {o : Op} {f : Format} (h : (footprintOf o f).run = true) : o = .wai ∨ o = .stp := by
  cases o <;> simp_all [footprintOf]

/-- Settles O51: what changed is in the footprint, and the footprint is the lists'. -/
theorem registerAndMemoryWriters : Obligations.RegisterAndMemoryWriters := by
  intro i s t h
  have hframe := eq_restrict_of_exec h
  refine ⟨fun ha => ?a, fun hx => ?x, fun hy => ?y, fun hsp => ?sp, fun hm => ?mem, fun hr => ?run,
    fun _ => (exec_memory h).read_other, ?nmi, ?env, ?board⟩
  case a => exact footprintOf_a (allowed_of_ne (congrArg State.a hframe) ha)
  case x => exact footprintOf_x (allowed_of_ne (congrArg State.x hframe) hx)
  case y => exact footprintOf_y (allowed_of_ne (congrArg State.y hframe) hy)
  case sp => exact footprintOf_sp (allowed_of_ne (congrArg State.sp hframe) hsp)
  case mem =>
    have hne : t.mem ≠ s.mem := fun e => hm fun _ _ => by rw [e]
    exact footprintOf_mem (allowed_of_ne (congrArg State.mem hframe) hne)
  case run => exact footprintOf_run (allowed_of_ne (congrArg State.run hframe) hr)
  all_goals rw [hframe, Footprint.restrict]

/-! The flags (10_state R27 to R32). -/

theorem footprintOf_n {o : Op} {f : Format} (h : (footprintOf o f).n = true) :
    o ∈ ([.lda, .ldx, .ldy, .tax, .tay, .txa, .tya, .tsx, .pla, .plx, .ply, .inc, .inx, .iny, .dec, .dex, .dey, .and,
      .ora, .eor, .asl, .lsr, .rol, .ror, .adc, .sbc, .cmp, .cpx, .cpy, .plp, .rti] : List Op) ∨ (o = .bit ∧ f ≠ .imm) := by
  cases o <;> simp_all [footprintOf]

theorem footprintOf_v {o : Op} {f : Format} (h : (footprintOf o f).v = true) :
    o ∈ ([.adc, .sbc, .clv, .plp, .rti] : List Op) ∨ (o = .bit ∧ f ≠ .imm) := by
  cases o <;> simp_all [footprintOf]

theorem footprintOf_d {o : Op} {f : Format} (h : (footprintOf o f).d = true) :
    o ∈ ([.sed, .cld, .plp, .rti, .brk] : List Op) := by
  cases o <;> simp_all [footprintOf]

theorem footprintOf_i {o : Op} {f : Format} (h : (footprintOf o f).i = true) :
    o ∈ ([.sei, .cli, .plp, .rti, .brk] : List Op) := by
  cases o <;> simp_all [footprintOf]

theorem footprintOf_z {o : Op} {f : Format} (h : (footprintOf o f).z = true) :
    o ∈ ([.lda, .ldx, .ldy, .tax, .tay, .txa, .tya, .tsx, .pla, .plx, .ply, .inc, .inx, .iny, .dec, .dex, .dey, .and,
      .ora, .eor, .asl, .lsr, .rol, .ror, .adc, .sbc, .cmp, .cpx, .cpy, .bit, .trb, .tsb, .plp, .rti] : List Op) := by
  cases o <;> simp_all [footprintOf]

theorem footprintOf_c {o : Op} {f : Format} (h : (footprintOf o f).c = true) :
    o ∈ ([.adc, .sbc, .cmp, .cpx, .cpy, .asl, .lsr, .rol, .ror, .clc, .sec, .plp, .rti] : List Op) := by
  cases o <;> simp_all [footprintOf]

/-- Settles O52: each flag that changed is in the footprint, and the footprint is the lists'. -/
theorem flagWriters : Obligations.FlagWriters := by
  intro i s t h
  have hframe := congrArg State.p (eq_restrict_of_exec h)
  refine ⟨fun hn => ?n, fun hv => ?v, fun hd => ?d, fun hi => ?i, fun hz => ?z, fun hc => ?c⟩
  case n => exact footprintOf_n (allowed_of_ne (congrArg Status.n hframe) hn)
  case v => exact footprintOf_v (allowed_of_ne (congrArg Status.v hframe) hv)
  case d => exact footprintOf_d (allowed_of_ne (congrArg Status.d hframe) hd)
  case i => exact footprintOf_i (allowed_of_ne (congrArg Status.i hframe) hi)
  case z => exact footprintOf_z (allowed_of_ne (congrArg Status.z hframe) hz)
  case c => exact footprintOf_c (allowed_of_ne (congrArg Status.c hframe) hc)

/-! Where D matters (10_state R29). -/

/-- A branch reads the flag it tests, which is not D. -/
theorem branch_withD (cond : Bool) (off : Byte) (s : State) (d : Bool) :
    withD (branch cond off (withD s d)) false = withD (branch cond off s) false := by
  rw [branch_eq, branch_eq]
  rfl

/-- Settles O53: the other instructions compute the same from any D, and leave D or overwrite it. -/
theorem decimalFlagMattersOnlyToAddSub : Obligations.DecimalFlagMattersOnlyToAddSub := by
  intro i s t d hop h
  suffices hboth : ∃ t u, exec i s = .next t ∧ exec i (withD s d) = .next u ∧ withD u false = withD t false by
    obtain ⟨t', u, ht, hu, heq⟩ := hboth
    rw [h, Host.Outcome.next.injEq] at ht
    exact ⟨u, hu, ht ▸ heq⟩
  clear h
  cases i with
  | adcImm | adcZp | adcZpx | adcAbs | adcAbsx | adcAbsy | adcIndx | adcIndy | adcZpind | sbcImm | sbcZp | sbcZpx | sbcAbs
  | sbcAbsx | sbcAbsy | sbcIndx | sbcIndy | sbcZpind | php | brk => exact absurd (List.elem_iff.mp rfl) hop
  | bcc | bcs | beq | bne | bmi | bpl | bvc | bvs | bra => exact ⟨_, _, rfl, rfl, branch_withD _ _ s d⟩
  | _ => exact ⟨_, _, rfl, rfl, rfl⟩

end Sys2Proof.Proofs
end

section
/-! PROOFS of the statements about the bus annotation (70_reset_and_hazards R312 to R320): its length, its outputs, and its
write cycles. -/

namespace Sys2Proof.Proofs

open Machine Stmt

/-! What the cycles after the opcode fetch can be. -/

/-- The cycles of an instruction after its opcode fetch, by what they are. -/
inductive LaterCycle (i : Instr) (s : State) : BusCycle → Prop where
  | read (a : Addr) : LaterCycle i s (readCycle a)
  | io (a : Addr) : LaterCycle i s (ioCycle a)
  | waiting (a : Addr) : LaterCycle i s { ioCycle a with rdyDriven := true }
  | stored (a : Addr) : LaterCycle i s (storedCycle i s a)
  | locked {c : BusCycle} (hk : busKind i.op = .modify) (hf : i.format ≠ .acc) (hc : LaterCycle i s c) :
      LaterCycle i s c.locked
  | vector (a : Addr) (hk : busKind i.op = .brk) : LaterCycle i s (vectorCycle a)

section Cycles

variable {i : Instr} {s : State}

theorem indexCycle_kind (op : Byte) (st : Bool) (m : MemMode) : ∀ c ∈ indexCycle op st m s, LaterCycle i s c := by
  unfold indexCycle
  split_ifs <;> simp [LaterCycle.io]

theorem addressCycles_kind (op : Byte) (st : Bool) (m : MemMode) : ∀ c ∈ addressCycles op st m s, LaterCycle i s c := by
  have hindex := indexCycle_kind (i := i) (s := s) op st m
  cases m <;> simp_all [addressCycles, LaterCycle.read, LaterCycle.io, or_imp]

theorem unstatedCycles_kind (op : Byte) (k n : Nat) : ∀ c ∈ unstatedCycles op k n, LaterCycle i s c := by
  induction n generalizing k with
  | zero => simp [unstatedCycles]
  | succ n ih => exact List.forall_mem_cons.mpr ⟨.io _, ih _⟩

/-- An instruction with an effective address does not work on A. -/
theorem format_ne_acc_of_memMode {m : MemMode} (h : memMode i = some m) : i.format ≠ .acc := by
  intro hf
  simp [memMode, hf] at h

theorem laterCycles_kind (i : Instr) (s : State) : ∀ c ∈ laterCycles i s, LaterCycle i s c := by
  unfold laterCycles
  cases hk : busKind i.op with
  | load =>
    refine List.forall_mem_append.mpr ⟨?operand, ?decimal⟩
    case operand =>
      cases memMode i with
      | none => simp [LaterCycle.read]
      | some m => exact List.forall_mem_append.mpr ⟨addressCycles_kind _ _ m, by simp [LaterCycle.read]⟩
    case decimal =>
      split_ifs
      · exact unstatedCycles_kind _ _ _
      · simp
  | store =>
    cases memMode i with
    | none => simp
    | some m => exact List.forall_mem_append.mpr ⟨addressCycles_kind _ _ m, by simp [LaterCycle.stored]⟩
  | modify =>
    cases hm : memMode i with
    | none => simp [LaterCycle.io]
    | some m =>
      have hlocked {c : BusCycle} (hc : LaterCycle i s c) := LaterCycle.locked hk (format_ne_acc_of_memMode hm) hc
      refine List.forall_mem_append.mpr ⟨addressCycles_kind _ _ m, ?_⟩
      simp [hlocked, LaterCycle.read, LaterCycle.io, LaterCycle.stored]
  | branch =>
    split_ifs <;> simp [LaterCycle.read, LaterCycle.io]
  | jump =>
    cases memMode i with
    | none => simp
    | some m => exact addressCycles_kind _ _ m
  | brk => simp [LaterCycle.read, LaterCycle.stored, LaterCycle.vector, hk]
  | wait => simp [LaterCycle.io, LaterCycle.waiting]
  | reserved =>
    refine List.forall_mem_append.mpr ⟨?_, unstatedCycles_kind _ _ _⟩
    split_ifs <;> simp [LaterCycle.read]
  | implied | call | subReturn | intReturn | push | pull | stop =>
    simp [LaterCycle.read, LaterCycle.io, LaterCycle.stored]

end Cycles

/-! SYNC, ML- and VP- (30_encoding R80; 20_memory R68; 60_exceptions R270). -/

section Outputs

variable {i : Instr} {s : State} {c : BusCycle}

theorem LaterCycle.sync (h : LaterCycle i s c) : c.sync = false := by
  induction h with
  | locked _ _ _ ih => exact ih
  | _ => rfl

theorem LaterCycle.mlLow (h : LaterCycle i s c) (hml : c.mlLow = true) : busKind i.op = .modify ∧ i.format ≠ .acc := by
  cases h with
  | locked hk hf => exact ⟨hk, hf⟩
  | _ => cases hml

theorem LaterCycle.vpLow (h : LaterCycle i s c) (hvp : c.vpLow = true) : busKind i.op = .brk := by
  induction h with
  | locked _ _ _ ih => exact ih hvp
  | vector _ hk => exact hk
  | _ => cases hvp

end Outputs

theorem op_of_busKind_modify {o : Op} (h : busKind o = .modify) :
    o ∈ ([.asl, .lsr, .rol, .ror, .inc, .dec, .trb, .tsb] : List Op) := by
  cases o <;> simp_all [busKind]

theorem op_of_busKind_brk {o : Op} (h : busKind o = .brk) : o = .brk := by
  cases o <;> simp_all [busKind]

/-! The number of cycles (70_reset_and_hazards R320). -/

/-- The cycles of a mode between the opcode fetch and the data access, without a page crossing. -/
def addressCount : MemMode → Nat
  | .zp _ => 1
  | .zpx _ | .zpy _ | .abs _ | .absx _ | .absy _ => 2
  | .indy _ | .zpind _ => 3
  | .indx _ => 4
  | .absind _ | .absxind _ => 5

/-- The extra cycle that an indexed store always has. -/
def indexCount : MemMode → Nat
  | .absx _ | .absy _ | .indy _ => 1
  | .zp _ | .zpx _ | .zpy _ | .abs _ | .indx _ | .zpind _ | .absind _ | .absxind _ => 0

theorem indexCycle_read_length (op : Byte) (m : MemMode) (s : State) :
    (indexCycle op false m s).length = (m.crosses s).toNat := by
  cases h : m.crosses s <;> simp [indexCycle, h]

theorem indexCycle_store_length (op : Byte) (m : MemMode) (s : State) : (indexCycle op true m s).length = 1 := by
  cases h : m.crosses s <;> simp [indexCycle, h]

theorem addressCycles_read_length (op : Byte) (m : MemMode) (s : State) :
    (addressCycles op false m s).length = addressCount m + (m.crosses s).toNat := by
  have h := indexCycle_read_length op m s
  cases m with
  | absx | absy | indy =>
    rw [addressCycles, List.length_append, h]
    rfl
  | _ => rfl

theorem addressCycles_store_length (op : Byte) (m : MemMode) (s : State) :
    (addressCycles op true m s).length = addressCount m + indexCount m := by
  have h := indexCycle_store_length op m s
  cases m with
  | absx | absy | indy => simp [addressCycles, addressCount, indexCount, h]
  | _ => rfl

theorem unstatedCycles_length (op : Byte) (k n : Nat) : (unstatedCycles op k n).length = n := by
  induction n generalizing k with
  | zero => rfl
  | succ n ih => rw [unstatedCycles, List.length_cons, ih]

/-- The table's count of an instruction. -/
def baseCount (i : Instr) : Nat := baseCycles.getD ((encode i).getD 0 0).toNat 0

/-- The count of the bus cycles that do not depend on the state: the opcode fetch and those of the group. -/
def fixedCount (i : Instr) : Nat :=
  match busKind i.op, memMode i with
  | .load, some m => 2 + addressCount m
  | .store, some m => 2 + addressCount m + indexCount m
  | .modify, some m => 4 + addressCount m
  | .jump, some m => 1 + addressCount m
  | .branch, _ => 2 + (i.op == .bra).toNat
  | .implied, _ | .load, none | .modify, none => 2
  | .store, none | .jump, none => 1
  | .call, _ | .subReturn, _ | .intReturn, _ => 6
  | .push, _ | .wait, _ | .stop, _ => 3
  | .pull, _ => 4
  | .brk, _ => 7
  | .reserved, _ => baseCount i

/-- The table counts the cycles of the groups (30_encoding R84, against 70 R312 to R318). -/
theorem baseCount_eq_fixedCount (i : Instr) : baseCount i = fixedCount i := by
  cases i <;> rfl

/-- No instruction takes fewer cycles than it has bytes. -/
theorem length_le_baseCount (i : Instr) : i.length ≤ baseCount i := by
  cases i <;> exact Nat.le_of_ble_eq_true rfl

theorem decimalCycles_length (op : Byte) (decimal : Bool) :
    (if decimal then unstatedCycles op 0 1 else []).length = decimal.toNat := by
  cases decimal <;> rfl

/-- The cycles of a branch: BRA, which is always taken, has the cycle of a taken branch in its count. -/
theorem branch_laterCycles_length {i : Instr} (hk : busKind i.op = .branch) (s : State) :
    (laterCycles i s).length + 1 = fixedCount i + extraCycles i s := by
  have hbra : i.op = .bra → branchTaken i.op s.p = true := by
    intro h
    rw [h]
    rfl
  cases ht : branchTaken i.op s.p with
  | false =>
    have hne : i.op ≠ .bra := fun h => Bool.false_ne_true (ht.symm.trans (hbra h))
    simp [laterCycles, fixedCount, extraCycles, hk, ht, hne]
  | true =>
    cases hb : i.op == .bra <;> cases hc : branchCrosses i s <;>
      simp [laterCycles, fixedCount, extraCycles, hk, ht, hc, hb, bne]

/-- The modes of JMP cross no page. -/
theorem jump_crosses {i : Instr} (hk : busKind i.op = .jump) {m : MemMode} (hm : memMode i = some m) (s : State) :
    m.crosses s = false := by
  cases i with
  | jmpAbs | jmpAbsind | jmpAbsxind =>
    obtain rfl := Option.some.inj hm
    rfl
  | _ => exact nomatch hk

/-- The cycles of a reserved opcode: one for each byte, then as many as its count leaves. -/
theorem reserved_laterCycles_length {i : Instr} (hk : busKind i.op = .reserved) (s : State) :
    (laterCycles i s).length + 1 = cycleCount i s := by
  obtain ⟨hpos, hle⟩ := format_length_bounds i.format
  have hcount : i.length ≤ cycleCount i s := Nat.le_trans (length_le_baseCount i) (Nat.le_add_right _ _)
  have hbytes : (if 1 < i.length then [readCycle (s.pc + 1)] else []).length +
      (if 2 < i.length then [readCycle (s.pc + 2)] else []).length + 1 = i.length := by
    change 0 < i.length at hpos
    change i.length ≤ 3 at hle
    split_ifs <;> simp only [List.length_cons, List.length_nil] <;> omega
  simp only [laterCycles, hk, List.length_append, unstatedCycles_length]
  omega

theorem busCycles_length (i : Instr) (s : State) : (busCycles i s).length = cycleCount i s := by
  have hcount : cycleCount i s = fixedCount i + extraCycles i s := by
    rw [← baseCount_eq_fixedCount]
    rfl
  rw [busCycles, List.length_cons]
  cases hk : busKind i.op with
  | reserved => exact reserved_laterCycles_length hk s
  | branch => rw [hcount, branch_laterCycles_length hk]
  | load =>
    cases hm : memMode i <;>
      simp only [hcount, laterCycles, fixedCount, extraCycles, hk, hm, List.length_append, List.length_cons,
        List.length_nil, addressCycles_read_length, decimalCycles_length] <;> omega
  | jump =>
    cases hm : memMode i with
    | none => simp only [hcount, laterCycles, fixedCount, extraCycles, hk, hm, List.length_nil]
    | some m =>
      simp only [hcount, laterCycles, fixedCount, extraCycles, hk, hm, addressCycles_read_length, jump_crosses hk hm,
        Bool.toNat_false]
      omega
  | store | modify =>
    cases hm : memMode i with
    | none => simp only [hcount, laterCycles, fixedCount, extraCycles, hk, hm, List.length_cons, List.length_nil]
    | some m =>
      simp only [hcount, laterCycles, fixedCount, extraCycles, hk, hm, List.length_append, List.length_cons,
        List.length_nil, addressCycles_read_length, addressCycles_store_length]
      omega
  | implied | call | subReturn | intReturn | push | pull | brk | wait | stop =>
    simp only [hcount, laterCycles, fixedCount, extraCycles, hk, List.length_cons, List.length_nil]

/-- Settles O58. -/
theorem busCyclesMatchCount : Obligations.BusCyclesMatchCount := by
  intro i s
  refine ⟨busCycles_length i s, rfl, fun c hc => (laterCycles_kind i s c hc).sync, ?ml, ?vp⟩
  case ml =>
    refine List.forall_mem_cons.mpr ⟨fun hml => Bool.noConfusion hml, fun c hc hml => ?_⟩
    obtain ⟨hk, hf⟩ := (laterCycles_kind i s c hc).mlLow hml
    exact ⟨op_of_busKind_modify hk, hf⟩
  case vp =>
    refine List.forall_mem_cons.mpr ⟨fun hvp => Bool.noConfusion hvp, fun c hc hvp => ?_⟩
    exact op_of_busKind_brk ((laterCycles_kind i s c hc).vpLow hvp)

/-! The write cycles are the stores (70_reset_and_hazards R313, R314, R316 to R318). -/

/-- Memory after writes of the processor on the board `b`, in order. -/
def writesOn (b : Board) (m : Memory) (ws : List (Addr × Byte)) : Memory :=
  ws.foldl (fun n w => b.write n w.1 w.2) m

theorem read_writesOn_other (b : Board) (m : Memory) {ws : List (Addr × Byte)} {a : Addr} (h : ∀ w ∈ ws, w.1 ≠ a) :
    Memory.read (writesOn b m ws) a = Memory.read m a := by
  induction ws generalizing m with
  | nil => rfl
  | cons w ws ih =>
    obtain ⟨hw, hws⟩ := List.forall_mem_cons.mp h
    exact (ih (b.write m w.1 w.2) hws).trans (Board.read_write_ne b m hw.symm w.2)

/-- RAM holds after the same writes what it would hold if all were RAM. -/
theorem read_writesOn_ram {b : Board} {a : Addr} (ha : b.kindAt a = .ram) (ws : List (Addr × Byte)) {m n : Memory}
    (h : Memory.read m a = Memory.read n a) :
    Memory.read (writesOn b m ws) a = Memory.read (writesOn Board.allRam n ws) a := by
  induction ws generalizing m n with
  | nil => exact h
  | cons w ws ih =>
    refine ih ?_
    rw [Board.read_write, Board.read_write, h, ha, Board.allRam_kindAt]

/-- The instruction writes at the addresses `as`, in order, and on every board the same bytes. -/
def Stores (as : List Addr) (i : Instr) (s : State) : Prop :=
  ∃ ws : List (Addr × Byte), ws.map Prod.fst = as ∧
    ∀ b, ∃ t, exec i { s with board := b } = .next t ∧ t.mem = writesOn b s.mem ws

/-- A value of the state in which the board plays no part. -/
def BoardFree {α : Type} (v : State → α) : Prop := ∀ (s : State) (b : Board), v { s with board := b } = v s

theorem effAddr_boardFree (m : MemMode) : BoardFree (effAddr m) := by
  intro s b
  cases m <;> rfl

/-- Outside the memory footprint nothing is stored. -/
theorem stores_nil {i : Instr} (h : (footprintOf i.op i.format).mem = false) (s : State) : Stores [] i s := by
  refine ⟨[], rfl, fun b => ?_⟩
  obtain ⟨t, ht, hframe⟩ := exec_footprint i { s with board := b }
  refine ⟨t, ht, ?_⟩
  rw [hframe, Footprint.restrict, h]
  rfl

theorem exec_of_store {i : Instr} (hk : busKind i.op = .store) : ∃ m v, memMode i = some m ∧ BoardFree v ∧
    ∀ s, exec i s = .next (storeByte m (v s) s) := by
  cases i with
  | staAbs b | stxAbs b | styAbs b | stzAbs b =>
    exact ⟨.abs b, _, congrArg (some ∘ MemMode.abs) (mkAddr_hiByte_loByte b), fun _ _ => rfl, fun _ => rfl⟩
  | staAbsx b | stzAbsx b =>
    exact ⟨.absx b, _, congrArg (some ∘ MemMode.absx) (mkAddr_hiByte_loByte b), fun _ _ => rfl, fun _ => rfl⟩
  | staAbsy b =>
    exact ⟨.absy b, _, congrArg (some ∘ MemMode.absy) (mkAddr_hiByte_loByte b), fun _ _ => rfl, fun _ => rfl⟩
  | staZp | staZpx | staIndx | staIndy | staZpind | stxZp | stxZpy | styZp | styZpx | stzZp | stzZpx =>
    exact ⟨_, _, rfl, fun _ _ => rfl, fun _ => rfl⟩
  | _ => exact nomatch hk

theorem exec_of_modify {i : Instr} (hk : busKind i.op = .modify) : (footprintOf i.op i.format).mem = false ∨
    ∃ m f, memMode i = some m ∧ BoardFree f ∧ ∀ s, exec i s = .next (rmw (.mem m) (f s) s) := by
  cases i with
  | incAbs b | decAbs b | trbAbs b | tsbAbs b | aslAbs b | lsrAbs b | rolAbs b | rorAbs b =>
    exact .inr ⟨.abs b, _, congrArg (some ∘ MemMode.abs) (mkAddr_hiByte_loByte b), fun _ _ => rfl, fun _ => rfl⟩
  | incAbsx b | decAbsx b | aslAbsx b | lsrAbsx b | rolAbsx b | rorAbsx b =>
    exact .inr ⟨.absx b, _, congrArg (some ∘ MemMode.absx) (mkAddr_hiByte_loByte b), fun _ _ => rfl, fun _ => rfl⟩
  | incZp | incZpx | decZp | decZpx | trbZp | tsbZp | aslZp | aslZpx | lsrZp | lsrZpx | rolZp | rolZpx | rorZp | rorZpx =>
    exact .inr ⟨_, _, rfl, fun _ _ => rfl, fun _ => rfl⟩
  | incAcc | decAcc | aslAcc | lsrAcc | rolAcc | rorAcc => exact .inl rfl
  | _ => exact nomatch hk

theorem exec_of_push {i : Instr} (hk : busKind i.op = .push) : ∃ v, BoardFree v ∧
    ∀ s, exec i s = .next ((s.advance 1).push (v s)) := by
  cases i with
  | pha | php | phx | phy => exact ⟨_, fun _ _ => rfl, fun _ => rfl⟩
  | _ => exact nomatch hk

theorem exec_of_call {i : Instr} (hk : busKind i.op = .call) : ∃ b, i = .jsr b := by
  cases i with
  | jsr b => exact ⟨b, rfl⟩
  | _ => exact nomatch hk

theorem exec_of_brk {i : Instr} (hk : busKind i.op = .brk) : ∃ sig, i = .brk sig := by
  cases i with
  | brk sig => exact ⟨sig, rfl⟩
  | _ => exact nomatch hk

theorem busKind_of_footprintOf_mem {o : Op} {f : Format} (h : (footprintOf o f).mem = true) :
    busKind o ∈ ([.store, .modify, .push, .call, .brk] : List BusKind) := by
  cases o <;> simp_all [footprintOf, busKind]

/-- What an instruction stores, and that each store has its write cycle. -/
theorem exec_stores (i : Instr) (s : State) : ∃ as, Stores as i s ∧
    ∀ a ∈ as, ∃ c ∈ laterCycles i s, c.addr = a ∧ c.wrote ≠ none := by
  have hnil (h : (footprintOf i.op i.format).mem = false) : ∃ as, Stores as i s ∧
      ∀ a ∈ as, ∃ c ∈ laterCycles i s, c.addr = a ∧ c.wrote ≠ none := ⟨[], stores_nil h s, by simp⟩
  cases hk : busKind i.op with
  | store =>
    obtain ⟨m, v, hm, hv, he⟩ := exec_of_store hk
    refine ⟨[effAddr m s], ⟨[(effAddr m s, v s)], rfl, fun b => ⟨_, he _, ?_⟩⟩, ?_⟩
    · rw [storeByte_eq, hv, effAddr_boardFree m]
      rfl
    · simp [laterCycles, hk, hm, storedCycle, writeCycle]
  | modify =>
    rcases exec_of_modify hk with hf | ⟨m, f, hm, hf, he⟩
    · exact hnil hf
    · refine ⟨[effAddr m s], ⟨[(effAddr m s, (f s (Memory.read s.mem (effAddr m s)) s.p).1)], rfl,
        fun b => ⟨_, he _, ?_⟩⟩, ?_⟩
      · rw [rmw_mem_eq, hf, effAddr_boardFree m]
        rfl
      · intro a ha
        refine ⟨(storedCycle i s (effAddr m s)).locked, by simp [laterCycles, hk, hm], ?_, Option.some_ne_none _⟩
        exact (List.mem_singleton.mp ha).symm
  | push =>
    obtain ⟨v, hv, he⟩ := exec_of_push hk
    refine ⟨[stackAddr s.sp], ⟨[(stackAddr s.sp, v s)], rfl, fun b => ⟨_, he _, ?_⟩⟩, ?_⟩
    · rw [hv]
      rfl
    · simp [laterCycles, hk, storedCycle, writeCycle]
  | call =>
    obtain ⟨b, rfl⟩ := exec_of_call hk
    refine ⟨[stackAddr s.sp, stackAddr (s.sp - 1)],
      ⟨[(stackAddr s.sp, hiByte (s.pc + 2)), (stackAddr (s.sp - 1), loByte (s.pc + 2))], rfl,
        fun board => ⟨_, exec_jsr b _, rfl⟩⟩, ?_⟩
    simp [laterCycles, hk, storedCycle, writeCycle]
  | brk =>
    obtain ⟨sig, rfl⟩ := exec_of_brk hk
    refine ⟨[stackAddr s.sp, stackAddr (s.sp - 1), stackAddr (s.sp - 2)],
      ⟨[(stackAddr s.sp, hiByte (s.pc + 2)), (stackAddr (s.sp - 1), loByte (s.pc + 2)),
        (stackAddr (s.sp - 2), s.p.image true)], rfl, fun board => ⟨_, exec_brk sig _, ?_⟩⟩, ?_⟩
    · rw [interruptSequence_mem, ← byte_sub_one_sub_one]
      rfl
    · simp [laterCycles, hk, storedCycle, writeCycle]
  | _ =>
    refine hnil (Bool.eq_false_iff.mpr fun h => ?_)
    have hmem := busKind_of_footprintOf_mem h
    simp [hk] at hmem

/-- A cycle that writes carries the byte that memory of RAM would hold at its address. -/
theorem LaterCycle.wrote {i : Instr} {s : State} {c : BusCycle} (h : LaterCycle i s c) {v : Byte}
    (hv : c.wrote = some v) : v = Memory.read (writtenMemory i s) c.addr := by
  induction h with
  | stored a => exact (Option.some.inj hv).symm
  | locked _ _ _ ih => exact ih hv
  | _ => cases hv

theorem busCycles_boardFree (i : Instr) : BoardFree (busCycles i) := fun _ _ => rfl

/-- Settles O59: memory and the write cycles hold the bytes of the same stores, on the board and on one of RAM. -/
theorem busWritesAreTheStores : Obligations.BusWritesAreTheStores := by
  intro i s t h
  obtain ⟨as, ⟨ws, hws, hexec⟩, hcycles⟩ := exec_stores i s
  have hmem : t.mem = writesOn s.board s.mem ws := by
    obtain ⟨u, hu, hmem⟩ := hexec s.board
    rw [h, Host.Outcome.next.injEq] at hu
    rw [hu, hmem]
  have hwritten : writtenMemory i s = writesOn Board.allRam s.mem ws := by
    obtain ⟨u, hu, hmem⟩ := hexec Board.allRam
    rw [writtenMemory, hu]
    exact hmem
  refine ⟨List.forall_mem_cons.mpr ⟨fun _ hv => (nomatch hv), fun c hc v hv hram => ?bytes⟩, fun a ha => ?changed,
    busCycles_boardFree i s⟩
  case bytes =>
    rw [(laterCycles_kind i s c hc).wrote hv, hwritten, hmem, read_writesOn_ram hram ws rfl]
  case changed =>
    have hmemAs : a ∈ as := by
      by_contra hnot
      refine ha ?_
      rw [hmem, read_writesOn_other s.board s.mem fun w hw e => hnot ?_]
      rw [← hws, ← e]
      exact List.mem_map_of_mem hw
    obtain ⟨c, hc, hcycle⟩ := hcycles a hmemAs
    exact ⟨c, List.mem_cons_of_mem _ hc, hcycle⟩

end Sys2Proof.Proofs
end
